-- ==== Sys2Proof/Word.lean ====
section
/-! DEFINITION. The word types of the block (spec/00_scope.md R9): `u8` and `u16`, both unsigned. -/

namespace Sys2Proof

/-- `u8` of R9: one byte of a stream, of a request or of an 8-bit register. -/
abbrev Byte := BitVec 8

/-- `u16` of R9: a checksum, or the count of a READ or XREAD. -/
abbrev Word16 := BitVec 16

end Sys2Proof
end

