-- ==== Sys2Proof/Syntax.lean ====
section
/-! DEFINITION. The operations of the block (spec/30_encoding.md R85, R86, R87) and the wire commands it carries
(spec/44_wire_commands.md R190 to R194): one constructor for each mnemonic of spec/opcode_table.json. -/

namespace Sys2Proof

/-- The five header bytes after the leading SYNC_A (R76): the operand `hdr` of VHDR and the registers
`HDR_BUF[0]` to `HDR_BUF[4]` (R23). -/
structure HeaderBytes where
  b0 : Byte
  b1 : Byte
  b2 : Byte
  b3 : Byte
  b4 : Byte
  deriving DecidableEq, Repr

/-- The response shape of a catalog entry (R195). The shape of a device-family opcode is not in the source (R197,
I9: a parameter), so it is an operand of that opcode's constructors and every shape is covered. DESIGN CHOICE, log entry 7. -/
inductive Shape where
  | none
  | acknowledgement
  | rawBytes (n : Word16)
  | rawBytesScaled (perUnit unitCount : Nat)
  deriving DecidableEq, Repr

/-- An instruction. The first nine constructors are the requests of R85 and R87. The others are the CMD rows of the
opcode table: each is a wire command, and stands for the request that carries it (R90, R195; DEDUCED, log entry
17). -/
inductive Instr where
  /-- OPC 0x01 (R103). -/
  | crc16 (data : List Byte)
  /-- OPC 0x02 (R120). -/
  | encode (xid : Byte) (cmd : List Byte)
  /-- OPC 0x03 (R123). -/
  | vhdr (xid op : Byte) (hdr : HeaderBytes)
  /-- OPC 0x04 (R141). -/
  | send (cmd : List Byte)
  /-- OPC 0x05 (R170). -/
  | read (n : Word16)
  /-- OPC 0x06 (R172). -/
  | ack
  /-- OPC 0x07 (R174). -/
  | xread (n : Word16) (cmd : List Byte)
  /-- OPC 0x08 (R175). -/
  | xack (cmd : List Byte)
  /-- A request with a reserved OPC or a malformed length (R87), whole. -/
  | illegal (req : List Byte)
  /-- Wire opcode 0x00 (R191). -/
  | setup (sel cols rows : Byte)
  /-- Wire opcode 0x01 (R192). -/
  | stopStreaming
  /-- Wire opcode 0x02 (R193). -/
  | stopComms
  /-- Wire opcode 0x10 (R194). -/
  | devop10 (shape : Shape) (args : List Byte)
  /-- Wire opcode 0x11 (R194). -/
  | devop11 (shape : Shape) (args : List Byte)
  /-- Wire opcode 0x12 (R194). -/
  | devop12 (shape : Shape) (args : List Byte)
  /-- Wire opcode 0x13 (R194). -/
  | devop13 (shape : Shape) (args : List Byte)
  /-- Wire opcode 0x14 (R194). -/
  | devop14 (shape : Shape) (args : List Byte)
  /-- Wire opcode 0x15 (R194). -/
  | devop15 (shape : Shape) (args : List Byte)
  /-- Wire opcode 0x16 (R194). -/
  | devop16 (shape : Shape) (args : List Byte)
  /-- Wire opcode 0x17 (R194). -/
  | devop17 (shape : Shape) (args : List Byte)
  /-- Wire opcode 0x20 (R194). -/
  | devop20 (shape : Shape) (args : List Byte)
  /-- Wire opcode 0x21 (R194). -/
  | devop21 (shape : Shape) (args : List Byte)
  /-- Wire opcode 0x22 (R194). -/
  | devop22 (shape : Shape) (args : List Byte)
  /-- Wire opcode 0x23 (R194). -/
  | devop23 (shape : Shape) (args : List Byte)
  /-- Wire opcode 0x24 (R194). -/
  | devop24 (shape : Shape) (args : List Byte)
  /-- Wire opcode 0x25 (R194). -/
  | devop25 (shape : Shape) (args : List Byte)
  /-- Wire opcode 0x26 (R194). -/
  | devop26 (shape : Shape) (args : List Byte)
  /-- Wire opcode 0x27 (R194). -/
  | devop27 (shape : Shape) (args : List Byte)
  /-- Wire opcode 0x28 (R194). -/
  | devop28 (shape : Shape) (args : List Byte)
  /-- Wire opcode 0x29 (R194). -/
  | devop29 (shape : Shape) (args : List Byte)
  /-- Wire opcode 0x30 (R194). -/
  | devop30 (shape : Shape) (args : List Byte)
  /-- Wire opcode 0x31 (R194). -/
  | devop31 (shape : Shape) (args : List Byte)
  /-- Wire opcode 0x32 (R194). -/
  | devop32 (shape : Shape) (args : List Byte)
  /-- Wire opcode 0x33 (R194). -/
  | devop33 (shape : Shape) (args : List Byte)
  /-- Wire opcode 0x34 (R194). -/
  | devop34 (shape : Shape) (args : List Byte)
  /-- Wire opcode 0x35 (R194). -/
  | devop35 (shape : Shape) (args : List Byte)
  /-- Wire opcode 0x40 (R194). -/
  | devop40 (shape : Shape) (args : List Byte)
  /-- Wire opcode 0x41 (R194). -/
  | devop41 (shape : Shape) (args : List Byte)
  /-- Wire opcode 0x42 (R194). -/
  | devop42 (shape : Shape) (args : List Byte)
  /-- Wire opcode 0x43 (R194). -/
  | devop43 (shape : Shape) (args : List Byte)
  /-- Wire opcode 0x44 (R194). -/
  | devop44 (shape : Shape) (args : List Byte)
  /-- Wire opcode 0x45 (R194). -/
  | devop45 (shape : Shape) (args : List Byte)
  /-- Wire opcode 0x46 (R194). -/
  | devop46 (shape : Shape) (args : List Byte)
  /-- Wire opcode 0x47 (R194). -/
  | devop47 (shape : Shape) (args : List Byte)
  /-- Wire opcode 0x48 (R194). -/
  | devop48 (shape : Shape) (args : List Byte)
  deriving DecidableEq, Repr

end Sys2Proof
end

