-- ==== Sys2Proof/Decode.lean ====
section
/-! DEFINITION. Requests as bytes (spec/30_encoding.md R85, R87, R91): the decoder, total on any bytes, and after
it the encoder; the wire commands as bytes (spec/44_wire_commands.md R190 to R195); and how a row of
spec/opcode_table.json is laid out as a request. -/

namespace Sys2Proof

/-! ## Operand fields -/

/-- The `n16` field of R85: two bytes, low first. -/
def n16 (lo hi : Byte) : Word16 := BitVec.ofNat 16 (lo.toNat + 256 * hi.toNat)

/-- The two bytes of an `n16` field, low first (R85). -/
def n16Bytes (v : Word16) : List Byte := [BitVec.ofNat 8 (v.toNat % 256), BitVec.ofNat 8 (v.toNat / 256)]

/-- The `L:u8` field of R85 for a list. -/
def countByte (bs : List Byte) : Byte := BitVec.ofNat 8 bs.length

/-- The `L:n16` field of R85 for a list. -/
def countWord (bs : List Byte) : Word16 := BitVec.ofNat 16 bs.length

/-! ## Length of a request (R91) -/

/-- The length that the OPC and the count field give a request (R85, R91); `none` for a reserved OPC and where
the count field is not there. -/
def requestLength (req : List Byte) : Option Nat :=
  match req with
  | [] => none
  | opc :: body =>
    match opc.toNat with
    | 0x01 => match body with
      | lo :: hi :: _ => some (3 + (n16 lo hi).toNat)
      | _ => none
    | 0x02 => match body with
      | _ :: len :: _ => some (3 + len.toNat)
      | _ => none
    | 0x03 => some 8
    | 0x04 => match body with
      | len :: _ => some (2 + len.toNat)
      | _ => none
    | 0x05 => some 3
    | 0x06 => some 1
    | 0x07 => match body with
      | _ :: _ :: len :: _ => some (4 + len.toNat)
      | _ => none
    | 0x08 => match body with
      | len :: _ => some (2 + len.toNat)
      | _ => none
    | _ => none

/-! ## The decoder -/

/-- `L:n16, data[L]` (R85, OPC 0x01). -/
def decodeCrc16 : List Byte → Option Instr
  | lo :: hi :: data => if data.length = (n16 lo hi).toNat then some (.crc16 data) else none
  | _ => none

/-- `xid:u8, L:u8, cmd[L]` (R85, OPC 0x02). -/
def decodeEncode : List Byte → Option Instr
  | xid :: len :: cmd => if cmd.length = len.toNat then some (.encode xid cmd) else none
  | _ => none

/-- `xid:u8, op:u8, hdr[5]` (R85, OPC 0x03). -/
def decodeVhdr : List Byte → Option Instr
  | [xid, op, h0, h1, h2, h3, h4] => some (.vhdr xid op ⟨h0, h1, h2, h3, h4⟩)
  | _ => none

/-- `L:u8, cmd[L]` (R85, OPC 0x04). -/
def decodeSend : List Byte → Option Instr
  | len :: cmd => if cmd.length = len.toNat then some (.send cmd) else none
  | _ => none

/-- `n:n16` (R85, OPC 0x05). -/
def decodeRead : List Byte → Option Instr
  | [lo, hi] => some (.read (n16 lo hi))
  | _ => none

/-- No operand (R85, OPC 0x06). -/
def decodeAck : List Byte → Option Instr
  | [] => some .ack
  | _ => none

/-- `n:n16, L:u8, cmd[L]` (R85, OPC 0x07). -/
def decodeXread : List Byte → Option Instr
  | lo :: hi :: len :: cmd => if cmd.length = len.toNat then some (.xread (n16 lo hi) cmd) else none
  | _ => none

/-- `L:u8, cmd[L]` (R85, OPC 0x08). -/
def decodeXack : List Byte → Option Instr
  | len :: cmd => if cmd.length = len.toNat then some (.xack cmd) else none
  | _ => none

/-- The operation of a request by its OPC (R86); `none` for a reserved OPC or a malformed length (R87). -/
def decodeBody (opc : Byte) (body : List Byte) : Option Instr :=
  match opc.toNat with
  | 0x01 => decodeCrc16 body
  | 0x02 => decodeEncode body
  | 0x03 => decodeVhdr body
  | 0x04 => decodeSend body
  | 0x05 => decodeRead body
  | 0x06 => decodeAck body
  | 0x07 => decodeXread body
  | 0x08 => decodeXack body
  | _ => none

/-- The instruction of a request. A request with a reserved OPC, with a malformed length or with no byte at all is
`illegal`, which has a meaning of its own (R87, R217; the empty request is DEDUCED, log entry 16); nothing falls
through to a neighbour. -/
def decode (req : List Byte) : Instr :=
  match req with
  | [] => .illegal []
  | opc :: body => (decodeBody opc body).getD (.illegal (opc :: body))

/-! ## Wire commands (R190 to R195) -/

/-- The request that carries a command of a shape (R195): SEND for `None`, XACK for `Acknowledgement`, XREAD for
`RawBytes`. `RawBytesScaled` is a raw read of the product (R196); where the product does not fit the `n16` field
the host must split the read, so the command goes by SEND and READs follow it (R195, R196; DESIGN CHOICE, log
entry 9). -/
def carried (shape : Shape) (cmd : List Byte) : Instr :=
  match shape with
  | .none => .send cmd
  | .acknowledgement => .xack cmd
  | .rawBytes n => .xread n cmd
  | .rawBytesScaled perUnit unitCount =>
    if perUnit * unitCount ≤ 65535 then .xread (BitVec.ofNat 16 (perUnit * unitCount)) cmd else .send cmd

/-- The request that an instruction stands for: itself for the operations of R85, the expansion of R90 and R195 for
a wire command. -/
def Instr.expand : Instr → Instr
  | .crc16 data => .crc16 data
  | .encode xid cmd => .encode xid cmd
  | .vhdr xid op hdr => .vhdr xid op hdr
  | .send cmd => .send cmd
  | .read n => .read n
  | .ack => .ack
  | .xread n cmd => .xread n cmd
  | .xack cmd => .xack cmd
  | .illegal req => .illegal req
  | .setup sel cols rows => .send [0x00, sel, cols, rows]
  | .stopStreaming => .send [0x01]
  | .stopComms => .send [0x02]
  | .devop10 shape args => carried shape (0x10 :: args)
  | .devop11 shape args => carried shape (0x11 :: args)
  | .devop12 shape args => carried shape (0x12 :: args)
  | .devop13 shape args => carried shape (0x13 :: args)
  | .devop14 shape args => carried shape (0x14 :: args)
  | .devop15 shape args => carried shape (0x15 :: args)
  | .devop16 shape args => carried shape (0x16 :: args)
  | .devop17 shape args => carried shape (0x17 :: args)
  | .devop20 shape args => carried shape (0x20 :: args)
  | .devop21 shape args => carried shape (0x21 :: args)
  | .devop22 shape args => carried shape (0x22 :: args)
  | .devop23 shape args => carried shape (0x23 :: args)
  | .devop24 shape args => carried shape (0x24 :: args)
  | .devop25 shape args => carried shape (0x25 :: args)
  | .devop26 shape args => carried shape (0x26 :: args)
  | .devop27 shape args => carried shape (0x27 :: args)
  | .devop28 shape args => carried shape (0x28 :: args)
  | .devop29 shape args => carried shape (0x29 :: args)
  | .devop30 shape args => carried shape (0x30 :: args)
  | .devop31 shape args => carried shape (0x31 :: args)
  | .devop32 shape args => carried shape (0x32 :: args)
  | .devop33 shape args => carried shape (0x33 :: args)
  | .devop34 shape args => carried shape (0x34 :: args)
  | .devop35 shape args => carried shape (0x35 :: args)
  | .devop40 shape args => carried shape (0x40 :: args)
  | .devop41 shape args => carried shape (0x41 :: args)
  | .devop42 shape args => carried shape (0x42 :: args)
  | .devop43 shape args => carried shape (0x43 :: args)
  | .devop44 shape args => carried shape (0x44 :: args)
  | .devop45 shape args => carried shape (0x45 :: args)
  | .devop46 shape args => carried shape (0x46 :: args)
  | .devop47 shape args => carried shape (0x47 :: args)
  | .devop48 shape args => carried shape (0x48 :: args)

/-- The wire command that command bytes spell, for a catalog that gives their opcode the shape `shape`. Command bytes
that no CMD row of the table spells are carried like any other (R190, D24), by the request of their shape. -/
def decodeCommand (shape : Shape) (cmd : List Byte) : Instr :=
  match cmd with
  | [] => .send []
  | op :: args =>
    match op.toNat with
    | 0x00 => match args with
      | [sel, cols, rows] => .setup sel cols rows
      | _ => carried shape cmd
    | 0x01 => match args with
      | [] => .stopStreaming
      | _ => carried shape cmd
    | 0x02 => match args with
      | [] => .stopComms
      | _ => carried shape cmd
    | 0x10 => .devop10 shape args
    | 0x11 => .devop11 shape args
    | 0x12 => .devop12 shape args
    | 0x13 => .devop13 shape args
    | 0x14 => .devop14 shape args
    | 0x15 => .devop15 shape args
    | 0x16 => .devop16 shape args
    | 0x17 => .devop17 shape args
    | 0x20 => .devop20 shape args
    | 0x21 => .devop21 shape args
    | 0x22 => .devop22 shape args
    | 0x23 => .devop23 shape args
    | 0x24 => .devop24 shape args
    | 0x25 => .devop25 shape args
    | 0x26 => .devop26 shape args
    | 0x27 => .devop27 shape args
    | 0x28 => .devop28 shape args
    | 0x29 => .devop29 shape args
    | 0x30 => .devop30 shape args
    | 0x31 => .devop31 shape args
    | 0x32 => .devop32 shape args
    | 0x33 => .devop33 shape args
    | 0x34 => .devop34 shape args
    | 0x35 => .devop35 shape args
    | 0x40 => .devop40 shape args
    | 0x41 => .devop41 shape args
    | 0x42 => .devop42 shape args
    | 0x43 => .devop43 shape args
    | 0x44 => .devop44 shape args
    | 0x45 => .devop45 shape args
    | 0x46 => .devop46 shape args
    | 0x47 => .devop47 shape args
    | 0x48 => .devop48 shape args
    | _ => carried shape cmd

/-- The shape and the command bytes of a wire command, `none` for an operation of R85: what `decodeCommand` reads
back. -/
def Instr.command? : Instr → Option (Shape × List Byte)
  | .crc16 _ => none
  | .encode _ _ => none
  | .vhdr _ _ _ => none
  | .send _ => none
  | .read _ => none
  | .ack => none
  | .xread _ _ => none
  | .xack _ => none
  | .illegal _ => none
  | .setup sel cols rows => some (.none, [0x00, sel, cols, rows])
  | .stopStreaming => some (.none, [0x01])
  | .stopComms => some (.none, [0x02])
  | .devop10 shape args => some (shape, 0x10 :: args)
  | .devop11 shape args => some (shape, 0x11 :: args)
  | .devop12 shape args => some (shape, 0x12 :: args)
  | .devop13 shape args => some (shape, 0x13 :: args)
  | .devop14 shape args => some (shape, 0x14 :: args)
  | .devop15 shape args => some (shape, 0x15 :: args)
  | .devop16 shape args => some (shape, 0x16 :: args)
  | .devop17 shape args => some (shape, 0x17 :: args)
  | .devop20 shape args => some (shape, 0x20 :: args)
  | .devop21 shape args => some (shape, 0x21 :: args)
  | .devop22 shape args => some (shape, 0x22 :: args)
  | .devop23 shape args => some (shape, 0x23 :: args)
  | .devop24 shape args => some (shape, 0x24 :: args)
  | .devop25 shape args => some (shape, 0x25 :: args)
  | .devop26 shape args => some (shape, 0x26 :: args)
  | .devop27 shape args => some (shape, 0x27 :: args)
  | .devop28 shape args => some (shape, 0x28 :: args)
  | .devop29 shape args => some (shape, 0x29 :: args)
  | .devop30 shape args => some (shape, 0x30 :: args)
  | .devop31 shape args => some (shape, 0x31 :: args)
  | .devop32 shape args => some (shape, 0x32 :: args)
  | .devop33 shape args => some (shape, 0x33 :: args)
  | .devop34 shape args => some (shape, 0x34 :: args)
  | .devop35 shape args => some (shape, 0x35 :: args)
  | .devop40 shape args => some (shape, 0x40 :: args)
  | .devop41 shape args => some (shape, 0x41 :: args)
  | .devop42 shape args => some (shape, 0x42 :: args)
  | .devop43 shape args => some (shape, 0x43 :: args)
  | .devop44 shape args => some (shape, 0x44 :: args)
  | .devop45 shape args => some (shape, 0x45 :: args)
  | .devop46 shape args => some (shape, 0x46 :: args)
  | .devop47 shape args => some (shape, 0x47 :: args)
  | .devop48 shape args => some (shape, 0x48 :: args)

/-! ## The encoder -/

/-- R85, OPC 0x04. -/
def encodeSend (cmd : List Byte) : List Byte := 0x04 :: countByte cmd :: cmd

/-- R85, OPC 0x07. -/
def encodeXread (n : Word16) (cmd : List Byte) : List Byte := 0x07 :: (n16Bytes n ++ countByte cmd :: cmd)

/-- R85, OPC 0x08. -/
def encodeXack (cmd : List Byte) : List Byte := 0x08 :: countByte cmd :: cmd

/-- The request bytes that carry a command of a shape (R195, R196), as `carried` chooses them. -/
def encodeCarried (shape : Shape) (cmd : List Byte) : List Byte :=
  match shape with
  | .none => encodeSend cmd
  | .acknowledgement => encodeXack cmd
  | .rawBytes n => encodeXread n cmd
  | .rawBytesScaled perUnit unitCount =>
    if perUnit * unitCount ≤ 65535 then encodeXread (BitVec.ofNat 16 (perUnit * unitCount)) cmd
    else encodeSend cmd

/-- The request bytes of an instruction (R85, R89, R90, R195). -/
def encode : Instr → List Byte
  | .crc16 data => 0x01 :: (n16Bytes (countWord data) ++ data)
  | .encode xid cmd => 0x02 :: xid :: countByte cmd :: cmd
  | .vhdr xid op hdr => [0x03, xid, op, hdr.b0, hdr.b1, hdr.b2, hdr.b3, hdr.b4]
  | .send cmd => encodeSend cmd
  | .read n => 0x05 :: n16Bytes n
  | .ack => [0x06]
  | .xread n cmd => encodeXread n cmd
  | .xack cmd => encodeXack cmd
  | .illegal req => req
  | .setup sel cols rows => encodeSend [0x00, sel, cols, rows]
  | .stopStreaming => encodeSend [0x01]
  | .stopComms => encodeSend [0x02]
  | .devop10 shape args => encodeCarried shape (0x10 :: args)
  | .devop11 shape args => encodeCarried shape (0x11 :: args)
  | .devop12 shape args => encodeCarried shape (0x12 :: args)
  | .devop13 shape args => encodeCarried shape (0x13 :: args)
  | .devop14 shape args => encodeCarried shape (0x14 :: args)
  | .devop15 shape args => encodeCarried shape (0x15 :: args)
  | .devop16 shape args => encodeCarried shape (0x16 :: args)
  | .devop17 shape args => encodeCarried shape (0x17 :: args)
  | .devop20 shape args => encodeCarried shape (0x20 :: args)
  | .devop21 shape args => encodeCarried shape (0x21 :: args)
  | .devop22 shape args => encodeCarried shape (0x22 :: args)
  | .devop23 shape args => encodeCarried shape (0x23 :: args)
  | .devop24 shape args => encodeCarried shape (0x24 :: args)
  | .devop25 shape args => encodeCarried shape (0x25 :: args)
  | .devop26 shape args => encodeCarried shape (0x26 :: args)
  | .devop27 shape args => encodeCarried shape (0x27 :: args)
  | .devop28 shape args => encodeCarried shape (0x28 :: args)
  | .devop29 shape args => encodeCarried shape (0x29 :: args)
  | .devop30 shape args => encodeCarried shape (0x30 :: args)
  | .devop31 shape args => encodeCarried shape (0x31 :: args)
  | .devop32 shape args => encodeCarried shape (0x32 :: args)
  | .devop33 shape args => encodeCarried shape (0x33 :: args)
  | .devop34 shape args => encodeCarried shape (0x34 :: args)
  | .devop35 shape args => encodeCarried shape (0x35 :: args)
  | .devop40 shape args => encodeCarried shape (0x40 :: args)
  | .devop41 shape args => encodeCarried shape (0x41 :: args)
  | .devop42 shape args => encodeCarried shape (0x42 :: args)
  | .devop43 shape args => encodeCarried shape (0x43 :: args)
  | .devop44 shape args => encodeCarried shape (0x44 :: args)
  | .devop45 shape args => encodeCarried shape (0x45 :: args)
  | .devop46 shape args => encodeCarried shape (0x46 :: args)
  | .devop47 shape args => encodeCarried shape (0x47 :: args)
  | .devop48 shape args => encodeCarried shape (0x48 :: args)

/-! ## A row of the opcode table as a request (DESIGN CHOICE, log entry 8) -/

/-- The bytes of a table word, the first byte in bits 7..0. -/
def tableBytes (nbits w : Nat) : List Byte :=
  (List.range ((nbits + 7) / 8)).map (fun k => BitVec.ofNat 8 (w >>> (8 * k)))

/-- Whether a byte is one of the 33 device-family opcodes of R194. -/
def isDeviceOpcode (op : Byte) : Bool :=
  let v := op.toNat
  (0x10 ≤ v && v ≤ 0x17) || (0x20 ≤ v && v ≤ 0x29) || (0x30 ≤ v && v ≤ 0x35) || (0x40 ≤ v && v ≤ 0x48)

/-- Whether a table word is read as a CMD row. The table lists rows of two formats, and a first byte may match a
REQ row and a CMD row: the row that fixes more bits is taken, and the REQ row where they fix as many. A first byte
0x00 with the three argument bytes of SETUP is read as SETUP. -/
def isCommandRow (bytes : List Byte) : Bool :=
  match bytes with
  | [] => false
  | op :: args => isDeviceOpcode op || (op.toNat == 0 && args.length == 3)

/-- A request cut or filled with zeros to the length its OPC and count field give it (R91); a reserved OPC has no
length, and its bytes stay. -/
def fitRequest (bytes : List Byte) : List Byte :=
  match requestLength (bytes ++ List.replicate 3 0) with
  | some n => (bytes ++ List.replicate n 0).take n
  | none => bytes

/-- The request bytes of a table word: those of the request for a REQ row, those of the request that carries the
command for a CMD row (shape `None`). -/
def tableRequest (nbits w : Nat) : List Byte :=
  let bytes := tableBytes nbits w
  if isCommandRow bytes then encode (decodeCommand .none bytes) else fitRequest bytes

/-- The instruction of a table word. -/
def decodeTableWord (nbits w : Nat) : Option Instr :=
  let bytes := tableBytes nbits w
  if isCommandRow bytes then some (decodeCommand .none bytes) else some (decode (fitRequest bytes))

end Sys2Proof
end

