-- ==== Sys2Proof/Config.lean ====
section
/-! DEFINITION. What is fixed for one instance of the block: the constants the source fixes and the parameters
the spec leaves open (spec/00_scope.md R7, spec/10_state.md R29), and the one free value of the model. -/

namespace Sys2Proof

/-- The fault kind of a short acknowledgement read (R7 `SHORT_ACK_KIND`; conflict C5, decision D10). -/
inductive ShortAckKind where
  | timeout
  | ackInvalid
  deriving DecidableEq, Repr

/-- The parameters of R7 and R29. They are a field of the state that no step and no reset changes, so that a
statement about every state quantifies over them (DESIGN CHOICE, log entry 10). -/
structure Params where
  /-- `SYNC_A`, 8 bits. -/
  syncA : Byte
  /-- `SYNC_B`, 8 bits. -/
  syncB : Byte
  /-- `MAX_CMD_LEN`, 8 bits. -/
  maxCmdLen : BitVec 8
  /-- `SHORT_ACK_KIND`. -/
  shortAckKind : ShortAckKind
  /-- `SCAN_TIMEOUT_COUNTS`. -/
  scanTimeoutCounts : Bool
  deriving DecidableEq, Repr

/-- R121: the length byte is `len(c) + 1` and fits in 8 bits, so `MAX_CMD_LEN` is at most 254 (R81: 253 or 254). -/
def Params.wf (p : Params) : Bool := p.maxCmdLen.toNat ≤ 254

/-- The defaults of R7, the values that `State.reset` holds (log entry 10). -/
def Params.default : Params where
  syncA := 0xCC
  syncB := 0xEF
  maxCmdLen := 253
  shortAckKind := .timeout
  scanTimeoutCounts := true

namespace Config

/-- `CRC_POLY` (R7). -/
def crcPoly : Word16 := 0x1021
/-- `CRC_INIT` (R7). -/
def crcInit : Word16 := 0xFFFF
/-- `SCAN_LIMIT` (R7), at the width of `SCAN_CNT`. -/
def scanLimit : BitVec 7 := 100
/-- `HDR_LEN` (R7), at the width of `HDR_CNT`. -/
def hdrLen : BitVec 3 := 5
/-- `ACK_LEN` (R7), at the width of `ACK_CNT`. -/
def ackLen : BitVec 3 := 4
/-- `ACK_BYTE` (R7). -/
def ackByte : Byte := 0xFF

/-- FREE VALUE (spec/20_memory.md R55, I6, D12): how many bytes of a failed write left the block. It has no
body, so nothing can be proved of it. `txWrite` applies it to the draw counter and cuts it at the length of what
is written, so every length R55 admits is admitted. DESIGN CHOICE of the form, safe: log entry 4. -/
opaque writeCut : Nat → Nat

end Config

end Sys2Proof
end

