-- ==== Sys2Proof/Machine/State.lean ====
section
/-! DEFINITION. The state of the block (spec/10_state.md), of the byte streams (spec/20_memory.md R51, R55) and of the
request port (spec/30_encoding.md R84), as plain data, with its value at reset (R35). -/

namespace Sys2Proof.Machine

/-- The eight codes of the 3-bit register `ST` (R21). -/
inductive ExchangeState where
  | idle
  | sending
  | awaitSync
  | readHdr
  | validated
  | readFixed
  | readAck
  /-- Code 7, which R21 leaves unused and no rule enters. -/
  | unused
  deriving DecidableEq, Repr

/-- `CONT`, the continuation of a composite operation (R26). -/
inductive Cont where
  | none
  | read (n : Word16)
  | ack
  deriving DecidableEq, Repr

/-- The registers `ACK_BUF[0]` to `ACK_BUF[3]` (R26). -/
structure AckBytes where
  b0 : Byte
  b1 : Byte
  b2 : Byte
  b3 : Byte
  deriving DecidableEq, Repr

/-- The status of a result (R210). The codes 0x8 to 0xF are reserved and never produced, so they have no
constructor. -/
inductive Status where
  | ok
  | argTooLong
  | argEmpty
  | timeout
  | headerMismatch
  | ackInvalid
  | ioError
  | illegalOp
  deriving DecidableEq, Repr

/-- `RES.value` (R27). -/
inductive Value where
  | none
  | u16 (v : Word16)
  | bytes (bs : List Byte)
  deriving DecidableEq, Repr

/-- The result record `RES` (R27). -/
structure Result where
  /-- `RES.valid`, 1 bit. -/
  valid : Bool
  /-- `RES.status`, 4 bits in the serialization of R88. -/
  status : Status
  /-- `RES.sub`, 2 bits. -/
  sub : BitVec 2
  /-- `RES.mask`, 5 bits. -/
  mask : BitVec 5
  /-- `RES.rxid`, 8 bits. -/
  rxid : Byte
  /-- `RES.rop_v`, 1 bit. -/
  ropV : Bool
  /-- `RES.rop`, 8 bits. -/
  rop : Byte
  /-- `RES.value`. -/
  value : Value
  deriving DecidableEq, Repr

/-- A record with every field 0 and no value: what R149 gives the fields that a `finish` leaves out. As the value of
`RES` at reset only `valid = 0` is the spec's (R35); the other fields are the model's (log entry 2). -/
def Result.blank : Result where
  valid := false
  status := .ok
  sub := 0
  mask := 0
  rxid := 0
  ropV := false
  rop := 0
  value := .none

/-- One move of the schedule of a run: which agent of R6 moves next, and how (R51, R52, R84, R241). -/
inductive Event where
  /-- The environment's `ARRIVE(b)` (R51). -/
  | arrive (b : Byte)
  /-- The environment's `CLOSE` (R51). -/
  | close
  /-- The host presents a request at the request interface (R83, R84). -/
  | present (req : List Byte)
  /-- The reset line (R240, R241). -/
  | reset
  /-- One step of the block. `elapsed` is the free choice of R52 for a read attempt that finds `RXQ` empty: `true`,
  the per-byte timeout has elapsed; `false`, the attempt waits. Such a choice plays no part in any other step. -/
  | block (elapsed : Bool)
  deriving DecidableEq, Repr

/-- The state of the block, of the two streams and of the request interface. -/
structure State where
  /-- The read-only configuration (R29). -/
  cfg : Params
  /-- `XID` (R20). -/
  xid : Byte
  /-- `ST` (R21). -/
  st : ExchangeState
  /-- `SCAN_CNT` (R22). -/
  scanCnt : BitVec 7
  /-- `HDR_BUF[0..4]` (R23). -/
  hdrBuf : HeaderBytes
  /-- `HDR_CNT` (R23). -/
  hdrCnt : BitVec 3
  /-- `CTX_OP.v` (R24). -/
  ctxV : Bool
  /-- `CTX_OP.op` (R24). -/
  ctxOp : Byte
  /-- `FRAME` (R25). -/
  frame : List Byte
  /-- `RD_N` (R26). -/
  rdN : Word16
  /-- `RD_CNT` (R26). -/
  rdCnt : Word16
  /-- `RD_BUF` (R26). -/
  rdBuf : List Byte
  /-- `ACK_BUF[0..3]` (R26). -/
  ackBuf : AckBytes
  /-- `ACK_CNT` (R26). -/
  ackCnt : BitVec 3
  /-- `CONT` (R26). -/
  cont : Cont
  /-- `RES` (R27). -/
  res : Result
  /-- `CRC` (R28). -/
  crc : Word16
  /-- `RXQ`, the inbound queue, oldest byte first (R51). -/
  rxq : List Byte
  /-- `CLOSED` (R51). -/
  closed : Bool
  /-- `TXLOG`, the outbound log, oldest byte first (R55). -/
  txlog : List Byte
  /-- The request that the host presents and the block has not yet accepted (R84). Log entry 11. -/
  port : Option (List Byte)
  /-- The responses delivered to the host, oldest first (R83, R84, R149). The model's own field, log
  entry 12. -/
  responses : List Result
  /-- The moves still to come (R6, R51, R52). After the last of them the block alone moves. The model's own field,
  log entry 3. -/
  sched : List Event
  /-- How many times the free value `Config.writeCut` has been drawn. The model's own field, log entry 4. -/
  draws : Nat
  deriving DecidableEq, Repr

/-- Why the machine stops. No operation of the block stops it: a fault of an operation is a result (R211). -/
inductive Fault where
  /-- `ST` holds its unused code 7 (R21; I20: the model cannot continue). Raised by `step` when the block is to move.
  Safe: no rule enters the code, and no state with the invariant of `Safety.lean` holds it. Log entry 13. -/
  | unusedStateCode
  deriving DecidableEq, Repr

/-- Why an instruction has no meaning. -/
inductive Refusal where
  /-- An arm of `exec` without a meaning. Raised by no arm of this model. Safe. -/
  | notModelled (mnemonic : String)
  deriving DecidableEq, Repr

/-- The machine right after reset (R35), the stream just opened (R240, R242), with nothing presented and nothing
scheduled. Where R35 says `unspecified`, the value is the model's: zero or empty (DESIGN CHOICE, unsafe, log entry
2). The streams' values are the model's (DESIGN CHOICE, unsafe, log entry 1), and the configuration is at its defaults
(log entry 10). -/
def State.reset : State where
  cfg := Params.default
  xid := 0
  st := .idle
  scanCnt := 0
  hdrBuf := ⟨0, 0, 0, 0, 0⟩
  hdrCnt := 0
  ctxV := false
  ctxOp := 0
  frame := []
  rdN := 0
  rdCnt := 0
  rdBuf := []
  ackBuf := ⟨0, 0, 0, 0⟩
  ackCnt := 0
  cont := .none
  res := Result.blank
  crc := 0
  rxq := []
  closed := false
  txlog := []
  port := none
  responses := []
  sched := []
  draws := 0

end Sys2Proof.Machine
end

