-- ==== Sys2Proof/Machine/Flags.lean ====
section
/-! DEFINITION. The block has no flags (spec/10_state.md R32). Its condition bits are those of a result: the mismatch
mask of a header (spec/41_codec.md R124), the acknowledgement check (spec/43_stream_reads.md R173), and the codes of
spec/10_state.md R21 and spec/60_exceptions.md R210, R212. -/

namespace Sys2Proof.Machine

/-- `hdr_mask(x, op, h)` (R124, R213): bit i, of weight 2^i, is set when field i does not match, each field by
itself. -/
def hdrMask (p : Params) (x op : Byte) (h : HeaderBytes) : BitVec 5 :=
  BitVec.ofNat 5 ((h.b0 != p.syncB).toNat + 2 * (h.b1 != x).toNat + 4 * (h.b2 != op).toNat
    + 8 * (h.b3 != p.syncA).toNat + 16 * (h.b4 != p.syncB).toNat)

/-- All four bytes are `ACK_BYTE` (R78, R173, R215). -/
def ackComplete (a : AckBytes) : Bool :=
  a.b0 == Config.ackByte && a.b1 == Config.ackByte && a.b2 == Config.ackByte && a.b3 == Config.ackByte

/-- The 3-bit code of a state (R21). -/
def stateCode : ExchangeState → BitVec 3
  | .idle => 0
  | .sending => 1
  | .awaitSync => 2
  | .readHdr => 3
  | .validated => 4
  | .readFixed => 5
  | .readAck => 6
  | .unused => 7

/-- The 4-bit code of a status (R210). -/
def statusCode : Status → BitVec 4
  | .ok => 0x0
  | .argTooLong => 0x1
  | .argEmpty => 0x2
  | .timeout => 0x3
  | .headerMismatch => 0x4
  | .ackInvalid => 0x5
  | .ioError => 0x6
  | .illegalOp => 0x7

/-- The sub-cause `SCAN` (R212). -/
def subScan : BitVec 2 := 0
/-- The sub-cause `HEADER` (R212). -/
def subHeader : BitVec 2 := 1
/-- The sub-cause `FIXED` (R212). -/
def subFixed : BitVec 2 := 2
/-- The sub-cause `ACK` (R212). -/
def subAck : BitVec 2 := 3

end Sys2Proof.Machine
end

