-- ==== Sys2Proof/Machine/Operands.lean ====
section
/-! DEFINITION. How the parts of an operand and of an indexed register are read and written: the wire opcode of a
command (spec/00_scope.md glossary), `HDR_BUF[i]` and `ACK_BUF[i]` (spec/10_state.md R23, R26), the bytes of a word
(spec/20_memory.md R57). -/

namespace Sys2Proof.Machine

/-- `cmd[0]`, the wire opcode (R141). The rules read it only where `L ≥ 1`; of an empty command it gives the 0 that
R120 puts in `rop`. -/
def wireOpcode (cmd : List Byte) : Byte := cmd.headD 0

/-- `v[7:0]` (R57). -/
def lowByte (v : Word16) : Byte := v.extractLsb' 0 8

/-- `v[15:8]` (R57). -/
def highByte (v : Word16) : Byte := v.extractLsb' 8 8

/-- `HDR_BUF[i] <- b` (R147). There are five registers; R147 writes none beyond them, so another index writes
nothing (DESIGN CHOICE, log entry 14). -/
def setHeaderByte (h : HeaderBytes) (i : BitVec 3) (b : Byte) : HeaderBytes :=
  match i.toNat with
  | 0 => { h with b0 := b }
  | 1 => { h with b1 := b }
  | 2 => { h with b2 := b }
  | 3 => { h with b3 := b }
  | 4 => { h with b4 := b }
  | _ => h

/-- `ACK_BUF[i] <- b` (R173). There are four registers; another index writes nothing (DESIGN CHOICE, log
entry 14). -/
def setAckByte (a : AckBytes) (i : BitVec 3) (b : Byte) : AckBytes :=
  match i.toNat with
  | 0 => { a with b0 := b }
  | 1 => { a with b1 := b }
  | 2 => { a with b2 := b }
  | 3 => { a with b3 := b }
  | _ => a

end Sys2Proof.Machine
end

