-- ==== Sys2Proof/Machine/Ops.lean ====
section
/-! DEFINITION. The shared operations of the block: the checksum (spec/40_crc.md), the frame (spec/41_codec.md R121),
the stream primitives (spec/20_memory.md), `finish` and the delivery of a fault (spec/42_exchange.md R149,
spec/60_exceptions.md R211), the accept steps that several operations share, and reset (spec/70_reset_and_hazards.md). -/

namespace Sys2Proof.Machine

/-! ## Checksum -/

/-- `crc_bit` (R100). -/
def crcBit (c : Word16) : Word16 :=
  if c.getLsbD 15 then (c <<< 1) ^^^ Config.crcPoly else c <<< 1

/-- `crc_bit` applied `k` times (R101). -/
def crcBits : Nat → Word16 → Word16
  | 0, c => c
  | k + 1, c => crcBits k (crcBit c)

/-- `crc_byte` (R101): the byte enters bits 15..8, then eight bit steps. -/
def crcByte (c : Word16) (b : Byte) : Word16 := crcBits 8 (c ^^^ (b.zeroExtend 16 <<< 8))

/-- `crc16(s)` (R102). -/
def crc16 (s : List Byte) : Word16 := s.foldl crcByte Config.crcInit

/-- One computation of the CRC engine: `CRC` holds the checksum of `bytes` after it (R28, R102; DEDUCED, log entry 5). -/
def runCrc (bytes : List Byte) (s : State) : State := { s with crc := crc16 bytes }

/-! ## Frame -/

/-- The length byte of a frame (R71). -/
def lengthByte (cmd : List Byte) : Byte := BitVec.ofNat 8 (cmd.length + 1)

/-- `encode(x, c)` (R121; the layout is R70). -/
def encodeFrame (p : Params) (x : Byte) (cmd : List Byte) : List Byte :=
  let k := crc16 (x :: cmd)
  [p.syncA, p.syncB, lengthByte cmd, x] ++ cmd ++ [lowByte k, highByte k, p.syncA, p.syncB]

/-! ## Streams -/

/-- The outcome of a read attempt that ends (R52). -/
inductive RxOutcome where
  | byte (b : Byte)
  | timeout
  | ioErr
  deriving DecidableEq, Repr

/-- `RxRead()` (R52): the outcome and the state after it, or `none` where the attempt waits. `elapsed` is the free
choice of R52 between its cases (a) and (b). -/
def rxRead (elapsed : Bool) (s : State) : Option (RxOutcome × State) :=
  if s.closed then some (.ioErr, s)
  else match s.rxq with
    | b :: rest => some (.byte b, { s with rxq := rest })
    | [] => if elapsed then some (.timeout, s) else none

/-- `RxDiscard()` (R54). -/
def rxDiscard (s : State) : State := if s.closed then s else { s with rxq := [] }

/-- `TxWrite(bytes)` (R55): `true` for `Ok`. On a closed stream any number of the bytes may have been sent: a free
value (log entry 4). -/
def txWrite (bytes : List Byte) (s : State) : Bool × State :=
  if s.closed then
    (false, { s with txlog := s.txlog ++ bytes.take (min (Config.writeCut s.draws) bytes.length), draws := s.draws + 1 })
  else (true, { s with txlog := s.txlog ++ bytes })

/-- The environment's `ARRIVE(b)`, enabled only while the stream is open (R51). -/
def arrive (b : Byte) (s : State) : State := if s.closed then s else { s with rxq := s.rxq ++ [b] }

/-- The environment's `CLOSE` (R51). -/
def close (s : State) : State := { s with closed := true }

/-! ## Result and fault -/

/-- `finish(res)` (R149): the only writer of `RES`, and the delivery of the response (R84). -/
def finish (r : Result) (s : State) : State :=
  { s with
    res := { r with valid := true }
    cont := .none
    st := .idle
    responses := s.responses ++ [{ r with valid := true }] }

/-- `raise` (R211): a fault ends the operation by `finish` with a fault status, and nothing is rolled back (R220).
The context is the current `XID` and `CTX_OP.op`, with the valid bit that the raising rule gives it (R218). The return
from a fault is the state `IDLE` that `finish` leaves (R221): there is no operation for it. -/
def raiseFault (status : Status) (sub : BitVec 2) (mask : BitVec 5) (ropV : Bool) (s : State) : State :=
  finish { Result.blank with status := status, sub := sub, mask := mask, rxid := s.xid, ropV := ropV, rop := s.ctxOp } s

/-- The `OK` result in the context of the current exchange (R148, R170, R171, R173). -/
def finishOk (ropV : Bool) (value : Value) (s : State) : State :=
  finish { Result.blank with rxid := s.xid, ropV := ropV, rop := s.ctxOp, value := value } s

/-! ## Shared accept steps -/

/-- The increment of R142. -/
def nextXid (s : State) : State := { s with xid := s.xid + 1 }

/-- `begin_exchange(cmd, cont)` (R141, R142, R143). An empty command clears `CTX_OP.v` and leaves `CTX_OP.op` (DEDUCED,
log entry 15). -/
def beginExchange (cmd : List Byte) (cont : Cont) (s : State) : State :=
  let s := nextXid s
  match cmd with
  | [] => finish { Result.blank with status := .argEmpty, rxid := s.xid } { s with ctxV := false }
  | op :: _ =>
    let s := { s with ctxV := true, ctxOp := op }
    if s.cfg.maxCmdLen.toNat < cmd.length then raiseFault .argTooLong 0 0 true s
    else
      { runCrc (s.xid :: cmd) s with
        frame := encodeFrame s.cfg s.xid cmd
        cont := cont
        st := .sending }

/-- `start_read(n)` (R170). -/
def startRead (n : Word16) (s : State) : State :=
  if n = 0 then finishOk s.ctxV (.bytes []) s
  else { s with rdN := n, rdCnt := 0, rdBuf := [], st := .readFixed }

/-- The start of an acknowledgement read (R172, R148). -/
def startAck (s : State) : State := { s with ackCnt := 0, st := .readAck }

/-- The accept step of the operation that serves a wire command of a shape (R195, R196), as `carried` chooses it. -/
def serveCommand (shape : Shape) (cmd : List Byte) (s : State) : State :=
  match shape with
  | .none => beginExchange cmd .none s
  | .acknowledgement => beginExchange cmd .ack s
  | .rawBytes n => beginExchange cmd (.read n) s
  | .rawBytesScaled perUnit unitCount =>
    if perUnit * unitCount ≤ 65535 then beginExchange cmd (.read (BitVec.ofNat 16 (perUnit * unitCount))) s
    else beginExchange cmd .none s

/-! ## Request port and reset -/

/-- The host presents a request (R83). The port holds one: while a request is held, another is not presented (R6;
DESIGN CHOICE, log entry 11). -/
def present (req : List Byte) (s : State) : State :=
  match s.port with
  | none => { s with port := some req }
  | some _ => s

/-- The reset line (R240, R241): every register as in R35 (log entry 2 where it says `unspecified`), the
configuration and the streams unchanged, no response; what the host holds, a presented request among it, is unchanged
too (DESIGN CHOICE, log entry 11). -/
def resetLine (s : State) : State :=
  { State.reset with
    cfg := s.cfg
    rxq := s.rxq
    closed := s.closed
    txlog := s.txlog
    port := s.port
    responses := s.responses
    sched := s.sched
    draws := s.draws }

/-! ## The response as bytes -/

/-- The value part of a serialized response (R88). -/
def valueBytes : Value → List Byte
  | .none => []
  | .u16 v => n16Bytes v
  | .bytes bs => n16Bytes (countWord bs) ++ bs

/-- Byte 0 of a response: `status` in bits 3:0, `sub` in bits 5:4, `rop_v` in bit 6, and bit 7 = 0 (R88). -/
def statusByte (r : Result) : Byte :=
  BitVec.ofNat 8 ((statusCode r.status).toNat + 16 * r.sub.toNat + 64 * r.ropV.toNat)

/-- A response as bytes (R88). -/
def responseBytes (r : Result) : List Byte :=
  [statusByte r, r.mask.zeroExtend 8, r.rxid, if r.ropV then r.rop else 0] ++ valueBytes r.value

end Sys2Proof.Machine
end

