-- ==== Sys2Proof/Machine/Codec.lean ====
section
/-! DEFINITION. The operations of the frame codec (spec/41_codec.md). Both report their operands as context (R218). -/

namespace Sys2Proof.Machine

/-- ENCODE (R120, R122). The encoding runs the CRC engine (R102, R121; log entry 5). -/
def execEncode (xid : Byte) (cmd : List Byte) (s : State) : Host.Outcome State Fault Refusal :=
  if s.cfg.maxCmdLen.toNat < cmd.length then
    .next (finish { Result.blank with status := .argTooLong, rxid := xid, ropV := true, rop := wireOpcode cmd } s)
  else
    .next (finish
      { Result.blank with
        rxid := xid
        ropV := !cmd.isEmpty
        rop := wireOpcode cmd
        value := .bytes (encodeFrame s.cfg xid cmd) }
      (runCrc (xid :: cmd) s))

/-- VHDR (R123, R125). -/
def execVhdr (xid op : Byte) (hdr : HeaderBytes) (s : State) : Host.Outcome State Fault Refusal :=
  let m := hdrMask s.cfg xid op hdr
  .next (finish
    { Result.blank with
      status := if m = 0 then .ok else .headerMismatch
      mask := m
      rxid := xid
      ropV := true
      rop := op } s)

end Sys2Proof.Machine
end

