-- ==== Sys2Proof/Machine/Crc.lean ====
section
/-! DEFINITION. The CRC16 operation (spec/40_crc.md R103). -/

namespace Sys2Proof.Machine

/-- CRC16 (R103). The context is the current `XID` and `CTX_OP` (R218). -/
def execCrc16 (data : List Byte) (s : State) : Host.Outcome State Fault Refusal :=
  .next (finishOk s.ctxV (.u16 (crc16 data)) (runCrc data s))

end Sys2Proof.Machine
end

