-- ==== Sys2Proof/Machine/Exchange.lean ====
section
/-! DEFINITION. SEND and the steps of the exchange state machine (spec/42_exchange.md). A step of a state gives the
state after it; where its read attempt waits (R52), nothing changes. -/

namespace Sys2Proof.Machine

/-- SEND (R141). -/
def execSend (cmd : List Byte) (s : State) : Host.Outcome State Fault Refusal :=
  .next (beginExchange cmd .none s)

/-- The `SENDING` step (R144). -/
def sendingStep (s : State) : State :=
  match txWrite s.frame (rxDiscard s) with
  | (true, s) => { s with scanCnt := 0, st := .awaitSync }
  | (false, s) => raiseFault .ioError 0 0 true s

/-- `miss()` (R145). -/
def scanMiss (s : State) : State :=
  let s := { s with scanCnt := s.scanCnt + 1 }
  if s.scanCnt = Config.scanLimit then raiseFault .timeout subScan 0 true s else s

/-- The `AWAIT_SYNC` step (R145). -/
def awaitSyncStep (elapsed : Bool) (s : State) : State :=
  match rxRead elapsed s with
  | none => s
  | some (.ioErr, s) => raiseFault .ioError 0 0 true s
  | some (.byte b, s) => if b = s.cfg.syncA then { s with hdrCnt := 0, st := .readHdr } else scanMiss s
  | some (.timeout, s) => if s.cfg.scanTimeoutCounts then scanMiss s else raiseFault .timeout subScan 0 true s

/-- A header byte that was read (R147). -/
def takeHeaderByte (b : Byte) (s : State) : State :=
  let s := { s with hdrBuf := setHeaderByte s.hdrBuf s.hdrCnt b, hdrCnt := s.hdrCnt + 1 }
  if s.hdrCnt = Config.hdrLen then { s with st := .validated } else s

/-- The `READ_HDR` step (R147). -/
def readHdrStep (elapsed : Bool) (s : State) : State :=
  match rxRead elapsed s with
  | none => s
  | some (.ioErr, s) => raiseFault .ioError 0 0 true s
  | some (.timeout, s) => raiseFault .timeout subHeader 0 true s
  | some (.byte b, s) => takeHeaderByte b s

/-- The `VALIDATED` step (R148). -/
def validatedStep (s : State) : State :=
  let m := hdrMask s.cfg s.xid s.ctxOp s.hdrBuf
  if m = 0 then
    match s.cont with
    | .none => finishOk true .none s
    | .read n => startRead n { s with cont := .none }
    | .ack => startAck { s with cont := .none }
  else raiseFault .headerMismatch 0 m true s

end Sys2Proof.Machine
end

