-- ==== Sys2Proof/Machine/Illegal.lean ====
section
/-! DEFINITION. A reserved or malformed request (spec/30_encoding.md R87, spec/60_exceptions.md R217). -/

namespace Sys2Proof.Machine

/-- ILLEGAL (R87, R217): status `ILLEGAL_OP` in the current context, whatever the bytes of the request. -/
def execIllegal (_req : List Byte) (s : State) : Host.Outcome State Fault Refusal :=
  .next (raiseFault .illegalOp 0 0 s.ctxV s)

end Sys2Proof.Machine
end

