-- ==== Sys2Proof/Machine/StreamReads.lean ====
section
/-! DEFINITION. READ, ACK and the composite exchanges XREAD and XACK, with the steps of `READ_FIXED` and `READ_ACK`
(spec/43_stream_reads.md). -/

namespace Sys2Proof.Machine

/-- READ (R170). -/
def execRead (n : Word16) (s : State) : Host.Outcome State Fault Refusal := .next (startRead n s)

/-- ACK (R172). -/
def execAck (s : State) : Host.Outcome State Fault Refusal := .next (startAck s)

/-- XREAD (R174). -/
def execXread (n : Word16) (cmd : List Byte) (s : State) : Host.Outcome State Fault Refusal :=
  .next (beginExchange cmd (.read n) s)

/-- XACK (R175). -/
def execXack (cmd : List Byte) (s : State) : Host.Outcome State Fault Refusal :=
  .next (beginExchange cmd .ack s)

/-- A payload byte that was read (R171). -/
def takeFixedByte (b : Byte) (s : State) : State :=
  let s := { s with rdBuf := s.rdBuf ++ [b], rdCnt := s.rdCnt + 1 }
  if s.rdCnt = s.rdN then finishOk s.ctxV (.bytes s.rdBuf) s else s

/-- The `READ_FIXED` step (R171). -/
def readFixedStep (elapsed : Bool) (s : State) : State :=
  match rxRead elapsed s with
  | none => s
  | some (.ioErr, s) => raiseFault .ioError 0 0 s.ctxV s
  | some (.timeout, s) => raiseFault .timeout subFixed 0 s.ctxV s
  | some (.byte b, s) => takeFixedByte b s

/-- An acknowledgement read that came up short (R173; conflict C5). -/
def shortAck (s : State) : State :=
  match s.cfg.shortAckKind with
  | .timeout => raiseFault .timeout subAck 0 s.ctxV s
  | .ackInvalid => raiseFault .ackInvalid 0 0 s.ctxV s

/-- An acknowledgement byte that was read: the check comes after the fourth (R173). -/
def takeAckByte (b : Byte) (s : State) : State :=
  let s := { s with ackBuf := setAckByte s.ackBuf s.ackCnt b, ackCnt := s.ackCnt + 1 }
  if s.ackCnt = Config.ackLen then
    if ackComplete s.ackBuf then finishOk s.ctxV .none s else raiseFault .ackInvalid 0 0 s.ctxV s
  else s

/-- The `READ_ACK` step (R173). -/
def readAckStep (elapsed : Bool) (s : State) : State :=
  match rxRead elapsed s with
  | none => s
  | some (.ioErr, s) => raiseFault .ioError 0 0 s.ctxV s
  | some (.timeout, s) => shortAck s
  | some (.byte b, s) => takeAckByte b s

end Sys2Proof.Machine
end

