-- ==== Sys2Proof/Machine/Wire.lean ====
section
/-! DEFINITION. The wire commands of spec/44_wire_commands.md: each is begun by the operation that R195 gives its
shape. The block gives the command bytes no other meaning (R190); what the bridge does with them is not in the
spec (R194, I8). -/

namespace Sys2Proof.Machine

/-- SETUP (R191): SEND of `[0x00, sel, cols, rows]` (R90). -/
def execSetup (sel cols rows : Byte) (s : State) : Host.Outcome State Fault Refusal :=
  .next (serveCommand .none [0x00, sel, cols, rows] s)

/-- STOP_STREAMING (R192): SEND of `[0x01]` (R90). -/
def execStopStreaming (s : State) : Host.Outcome State Fault Refusal :=
  .next (serveCommand .none [0x01] s)

/-- STOP_COMMS (R193): SEND of `[0x02]` (R90). -/
def execStopComms (s : State) : Host.Outcome State Fault Refusal :=
  .next (serveCommand .none [0x02] s)

/-- DEVOP_10 (R194, R195). -/
def execDevop10 (shape : Shape) (args : List Byte) (s : State) : Host.Outcome State Fault Refusal :=
  .next (serveCommand shape (0x10 :: args) s)

/-- DEVOP_11 (R194, R195). -/
def execDevop11 (shape : Shape) (args : List Byte) (s : State) : Host.Outcome State Fault Refusal :=
  .next (serveCommand shape (0x11 :: args) s)

/-- DEVOP_12 (R194, R195). -/
def execDevop12 (shape : Shape) (args : List Byte) (s : State) : Host.Outcome State Fault Refusal :=
  .next (serveCommand shape (0x12 :: args) s)

/-- DEVOP_13 (R194, R195). -/
def execDevop13 (shape : Shape) (args : List Byte) (s : State) : Host.Outcome State Fault Refusal :=
  .next (serveCommand shape (0x13 :: args) s)

/-- DEVOP_14 (R194, R195). -/
def execDevop14 (shape : Shape) (args : List Byte) (s : State) : Host.Outcome State Fault Refusal :=
  .next (serveCommand shape (0x14 :: args) s)

/-- DEVOP_15 (R194, R195). -/
def execDevop15 (shape : Shape) (args : List Byte) (s : State) : Host.Outcome State Fault Refusal :=
  .next (serveCommand shape (0x15 :: args) s)

/-- DEVOP_16 (R194, R195). -/
def execDevop16 (shape : Shape) (args : List Byte) (s : State) : Host.Outcome State Fault Refusal :=
  .next (serveCommand shape (0x16 :: args) s)

/-- DEVOP_17 (R194, R195). -/
def execDevop17 (shape : Shape) (args : List Byte) (s : State) : Host.Outcome State Fault Refusal :=
  .next (serveCommand shape (0x17 :: args) s)

/-- DEVOP_20 (R194, R195). -/
def execDevop20 (shape : Shape) (args : List Byte) (s : State) : Host.Outcome State Fault Refusal :=
  .next (serveCommand shape (0x20 :: args) s)

/-- DEVOP_21 (R194, R195). -/
def execDevop21 (shape : Shape) (args : List Byte) (s : State) : Host.Outcome State Fault Refusal :=
  .next (serveCommand shape (0x21 :: args) s)

/-- DEVOP_22 (R194, R195). -/
def execDevop22 (shape : Shape) (args : List Byte) (s : State) : Host.Outcome State Fault Refusal :=
  .next (serveCommand shape (0x22 :: args) s)

/-- DEVOP_23 (R194, R195). -/
def execDevop23 (shape : Shape) (args : List Byte) (s : State) : Host.Outcome State Fault Refusal :=
  .next (serveCommand shape (0x23 :: args) s)

/-- DEVOP_24 (R194, R195). -/
def execDevop24 (shape : Shape) (args : List Byte) (s : State) : Host.Outcome State Fault Refusal :=
  .next (serveCommand shape (0x24 :: args) s)

/-- DEVOP_25 (R194, R195). -/
def execDevop25 (shape : Shape) (args : List Byte) (s : State) : Host.Outcome State Fault Refusal :=
  .next (serveCommand shape (0x25 :: args) s)

/-- DEVOP_26 (R194, R195). -/
def execDevop26 (shape : Shape) (args : List Byte) (s : State) : Host.Outcome State Fault Refusal :=
  .next (serveCommand shape (0x26 :: args) s)

/-- DEVOP_27 (R194, R195). -/
def execDevop27 (shape : Shape) (args : List Byte) (s : State) : Host.Outcome State Fault Refusal :=
  .next (serveCommand shape (0x27 :: args) s)

/-- DEVOP_28 (R194, R195). -/
def execDevop28 (shape : Shape) (args : List Byte) (s : State) : Host.Outcome State Fault Refusal :=
  .next (serveCommand shape (0x28 :: args) s)

/-- DEVOP_29 (R194, R195). -/
def execDevop29 (shape : Shape) (args : List Byte) (s : State) : Host.Outcome State Fault Refusal :=
  .next (serveCommand shape (0x29 :: args) s)

/-- DEVOP_30 (R194, R195). -/
def execDevop30 (shape : Shape) (args : List Byte) (s : State) : Host.Outcome State Fault Refusal :=
  .next (serveCommand shape (0x30 :: args) s)

/-- DEVOP_31 (R194, R195). -/
def execDevop31 (shape : Shape) (args : List Byte) (s : State) : Host.Outcome State Fault Refusal :=
  .next (serveCommand shape (0x31 :: args) s)

/-- DEVOP_32 (R194, R195). -/
def execDevop32 (shape : Shape) (args : List Byte) (s : State) : Host.Outcome State Fault Refusal :=
  .next (serveCommand shape (0x32 :: args) s)

/-- DEVOP_33 (R194, R195). -/
def execDevop33 (shape : Shape) (args : List Byte) (s : State) : Host.Outcome State Fault Refusal :=
  .next (serveCommand shape (0x33 :: args) s)

/-- DEVOP_34 (R194, R195). -/
def execDevop34 (shape : Shape) (args : List Byte) (s : State) : Host.Outcome State Fault Refusal :=
  .next (serveCommand shape (0x34 :: args) s)

/-- DEVOP_35 (R194, R195). -/
def execDevop35 (shape : Shape) (args : List Byte) (s : State) : Host.Outcome State Fault Refusal :=
  .next (serveCommand shape (0x35 :: args) s)

/-- DEVOP_40 (R194, R195). -/
def execDevop40 (shape : Shape) (args : List Byte) (s : State) : Host.Outcome State Fault Refusal :=
  .next (serveCommand shape (0x40 :: args) s)

/-- DEVOP_41 (R194, R195). -/
def execDevop41 (shape : Shape) (args : List Byte) (s : State) : Host.Outcome State Fault Refusal :=
  .next (serveCommand shape (0x41 :: args) s)

/-- DEVOP_42 (R194, R195). -/
def execDevop42 (shape : Shape) (args : List Byte) (s : State) : Host.Outcome State Fault Refusal :=
  .next (serveCommand shape (0x42 :: args) s)

/-- DEVOP_43 (R194, R195). -/
def execDevop43 (shape : Shape) (args : List Byte) (s : State) : Host.Outcome State Fault Refusal :=
  .next (serveCommand shape (0x43 :: args) s)

/-- DEVOP_44 (R194, R195). -/
def execDevop44 (shape : Shape) (args : List Byte) (s : State) : Host.Outcome State Fault Refusal :=
  .next (serveCommand shape (0x44 :: args) s)

/-- DEVOP_45 (R194, R195). -/
def execDevop45 (shape : Shape) (args : List Byte) (s : State) : Host.Outcome State Fault Refusal :=
  .next (serveCommand shape (0x45 :: args) s)

/-- DEVOP_46 (R194, R195). -/
def execDevop46 (shape : Shape) (args : List Byte) (s : State) : Host.Outcome State Fault Refusal :=
  .next (serveCommand shape (0x46 :: args) s)

/-- DEVOP_47 (R194, R195). -/
def execDevop47 (shape : Shape) (args : List Byte) (s : State) : Host.Outcome State Fault Refusal :=
  .next (serveCommand shape (0x47 :: args) s)

/-- DEVOP_48 (R194, R195). -/
def execDevop48 (shape : Shape) (args : List Byte) (s : State) : Host.Outcome State Fault Refusal :=
  .next (serveCommand shape (0x48 :: args) s)

end Sys2Proof.Machine
end

