-- ==== Sys2Proof/Machine/Dispatch.lean ====
section
/-! DEFINITION. One arm per instruction, each one call of its meaning. A meaning is the accept step of its operation
(spec/30_encoding.md R84); `Step.lean` calls it only in IDLE (log
entry 19). -/

namespace Sys2Proof.Machine

def exec (i : Instr) (s : State) : Host.Outcome State Fault Refusal :=
  match i with
  | .crc16 data => Sys2Proof.Machine.execCrc16 data s
  | .encode xid cmd => Sys2Proof.Machine.execEncode xid cmd s
  | .vhdr xid op hdr => Sys2Proof.Machine.execVhdr xid op hdr s
  | .send cmd => Sys2Proof.Machine.execSend cmd s
  | .read n => Sys2Proof.Machine.execRead n s
  | .ack => Sys2Proof.Machine.execAck s
  | .xread n cmd => Sys2Proof.Machine.execXread n cmd s
  | .xack cmd => Sys2Proof.Machine.execXack cmd s
  | .illegal req => Sys2Proof.Machine.execIllegal req s
  | .setup sel cols rows => Sys2Proof.Machine.execSetup sel cols rows s
  | .stopStreaming => Sys2Proof.Machine.execStopStreaming s
  | .stopComms => Sys2Proof.Machine.execStopComms s
  | .devop10 shape args => Sys2Proof.Machine.execDevop10 shape args s
  | .devop11 shape args => Sys2Proof.Machine.execDevop11 shape args s
  | .devop12 shape args => Sys2Proof.Machine.execDevop12 shape args s
  | .devop13 shape args => Sys2Proof.Machine.execDevop13 shape args s
  | .devop14 shape args => Sys2Proof.Machine.execDevop14 shape args s
  | .devop15 shape args => Sys2Proof.Machine.execDevop15 shape args s
  | .devop16 shape args => Sys2Proof.Machine.execDevop16 shape args s
  | .devop17 shape args => Sys2Proof.Machine.execDevop17 shape args s
  | .devop20 shape args => Sys2Proof.Machine.execDevop20 shape args s
  | .devop21 shape args => Sys2Proof.Machine.execDevop21 shape args s
  | .devop22 shape args => Sys2Proof.Machine.execDevop22 shape args s
  | .devop23 shape args => Sys2Proof.Machine.execDevop23 shape args s
  | .devop24 shape args => Sys2Proof.Machine.execDevop24 shape args s
  | .devop25 shape args => Sys2Proof.Machine.execDevop25 shape args s
  | .devop26 shape args => Sys2Proof.Machine.execDevop26 shape args s
  | .devop27 shape args => Sys2Proof.Machine.execDevop27 shape args s
  | .devop28 shape args => Sys2Proof.Machine.execDevop28 shape args s
  | .devop29 shape args => Sys2Proof.Machine.execDevop29 shape args s
  | .devop30 shape args => Sys2Proof.Machine.execDevop30 shape args s
  | .devop31 shape args => Sys2Proof.Machine.execDevop31 shape args s
  | .devop32 shape args => Sys2Proof.Machine.execDevop32 shape args s
  | .devop33 shape args => Sys2Proof.Machine.execDevop33 shape args s
  | .devop34 shape args => Sys2Proof.Machine.execDevop34 shape args s
  | .devop35 shape args => Sys2Proof.Machine.execDevop35 shape args s
  | .devop40 shape args => Sys2Proof.Machine.execDevop40 shape args s
  | .devop41 shape args => Sys2Proof.Machine.execDevop41 shape args s
  | .devop42 shape args => Sys2Proof.Machine.execDevop42 shape args s
  | .devop43 shape args => Sys2Proof.Machine.execDevop43 shape args s
  | .devop44 shape args => Sys2Proof.Machine.execDevop44 shape args s
  | .devop45 shape args => Sys2Proof.Machine.execDevop45 shape args s
  | .devop46 shape args => Sys2Proof.Machine.execDevop46 shape args s
  | .devop47 shape args => Sys2Proof.Machine.execDevop47 shape args s
  | .devop48 shape args => Sys2Proof.Machine.execDevop48 shape args s

end Sys2Proof.Machine
end

