-- ==== Sys2Proof/Machine/Step.lean ====
section
/-! DEFINITION. One step: the move of the schedule's first event, or of the block where nothing is scheduled
(spec/00_scope.md R6, spec/20_memory.md R51, spec/30_encoding.md R84). -/

namespace Sys2Proof.Machine

/-- One step of the block. In `IDLE` it accepts the request at the port, which leaves the port, and runs its accept
step (R84); with nothing presented it waits. In every other state it takes that state's step, and a presented request
stays held. -/
def blockStep (elapsed : Bool) (s : State) : Host.Outcome State Fault Refusal :=
  match s.st with
  | .idle =>
    match s.port with
    | none => .next s
    | some req => exec (decode req) { s with port := none }
  | .sending => .next (sendingStep s)
  | .awaitSync => .next (awaitSyncStep elapsed s)
  | .readHdr => .next (readHdrStep elapsed s)
  | .validated => .next (validatedStep s)
  | .readFixed => .next (readFixedStep elapsed s)
  | .readAck => .next (readAckStep elapsed s)
  | .unused => .fault .unusedStateCode

/-- One move of an agent (R6). -/
def runEvent (e : Event) (s : State) : Host.Outcome State Fault Refusal :=
  match e with
  | .arrive b => .next (arrive b s)
  | .close => .next (close s)
  | .present req => .next (present req s)
  | .reset => .next (resetLine s)
  | .block elapsed => blockStep elapsed s

/-- One step of the machine. With nothing scheduled no byte can arrive any more, so a read attempt that finds `RXQ`
empty times out, the only end that R53 leaves it (DESIGN CHOICE, log entry 3). -/
def step (s : State) : Host.Outcome State Fault Refusal :=
  match s.sched with
  | [] => blockStep true s
  | e :: rest => runEvent e { s with sched := rest }

/-- `s` with the request of a table word at the port, the block in `IDLE` and nothing scheduled before it, so that
the next step accepts that request (DESIGN CHOICE, log entries 6 and 8). -/
def State.withFetchWord (s : State) (nbits w : Nat) : State :=
  { s with st := .idle, sched := [], port := some (tableRequest nbits w) }

end Sys2Proof.Machine
end

