-- ==== Sys2Proof/WellFormed.lean ====
section
/-! DEFINITION. When an instruction can be written as a request: the field widths of spec/30_encoding.md R85. The limit
`MAX_CMD_LEN` is no such check: the operation makes it (R81, R85). -/

namespace Sys2Proof

/-- A list whose length fits the `L:u8` field (R85). -/
def fitsU8 (bs : List Byte) : Bool := bs.length ≤ 255

/-- A list whose length fits the `L:n16` field (R85). -/
def fitsN16 (bs : List Byte) : Bool := bs.length ≤ 65535

/-- A request that R87 calls illegal: the OPC and the count field give no length, or give another one. -/
def isIllegalRequest (req : List Byte) : Bool := requestLength req != some req.length

/-- The arguments of a wire command fit a request with its opcode before them (R85: `cmd[0]` and `L:u8`). -/
def argsFit (args : List Byte) : Bool := args.length ≤ 254

/-- An instruction that a request of R85 can carry. -/
def Instr.wellFormed : Instr → Bool
  | .crc16 data => fitsN16 data
  | .encode _ cmd => fitsU8 cmd
  | .vhdr _ _ _ => true
  | .send cmd => fitsU8 cmd
  | .read _ => true
  | .ack => true
  | .xread _ cmd => fitsU8 cmd
  | .xack cmd => fitsU8 cmd
  | .illegal req => isIllegalRequest req
  | .setup _ _ _ => true
  | .stopStreaming => true
  | .stopComms => true
  | .devop10 _ args => argsFit args
  | .devop11 _ args => argsFit args
  | .devop12 _ args => argsFit args
  | .devop13 _ args => argsFit args
  | .devop14 _ args => argsFit args
  | .devop15 _ args => argsFit args
  | .devop16 _ args => argsFit args
  | .devop17 _ args => argsFit args
  | .devop20 _ args => argsFit args
  | .devop21 _ args => argsFit args
  | .devop22 _ args => argsFit args
  | .devop23 _ args => argsFit args
  | .devop24 _ args => argsFit args
  | .devop25 _ args => argsFit args
  | .devop26 _ args => argsFit args
  | .devop27 _ args => argsFit args
  | .devop28 _ args => argsFit args
  | .devop29 _ args => argsFit args
  | .devop30 _ args => argsFit args
  | .devop31 _ args => argsFit args
  | .devop32 _ args => argsFit args
  | .devop33 _ args => argsFit args
  | .devop34 _ args => argsFit args
  | .devop35 _ args => argsFit args
  | .devop40 _ args => argsFit args
  | .devop41 _ args => argsFit args
  | .devop42 _ args => argsFit args
  | .devop43 _ args => argsFit args
  | .devop44 _ args => argsFit args
  | .devop45 _ args => argsFit args
  | .devop46 _ args => argsFit args
  | .devop47 _ args => argsFit args
  | .devop48 _ args => argsFit args

end Sys2Proof
end

