-- ==== Sys2Proof/Safety.lean ====
section
/-! DEFINITION. The terms of the claims: the outbound frames that spec/30_encoding.md R82 calls well formed, the
invariant of spec/10_state.md R34, the transitions of spec/42_exchange.md R140, the bounds of R154 and R178, and the
states that a run can reach. -/

namespace Sys2Proof.Machine

/-! ## Results -/

/-- `s` after its operation has ended with the result `r`: what R149 says, written out. -/
def delivered (r : Result) (s : State) : State :=
  { s with res := r, cont := .none, st := .idle, responses := s.responses ++ [r] }

/-- A result in the context of the exchange in progress, without a value (R144 to R148). -/
def exchangeResult (status : Status) (sub : BitVec 2) (mask : BitVec 5) (s : State) : Result where
  valid := true
  status := status
  sub := sub
  mask := mask
  rxid := s.xid
  ropV := true
  rop := s.ctxOp
  value := .none

/-- A result in the context of the current `XID` and `CTX_OP` (R103, R170, R171, R173, R217). -/
def contextResult (status : Status) (sub : BitVec 2) (value : Value) (s : State) : Result where
  valid := true
  status := status
  sub := sub
  mask := 0
  rxid := s.xid
  ropV := s.ctxV
  rop := s.ctxOp
  value := value

/-- A result in the context of its operands (R120, R123). -/
def operandResult (status : Status) (mask : BitVec 5) (rxid : Byte) (ropV : Bool) (rop : Byte) (value : Value) :
    Result where
  valid := true
  status := status
  sub := 0
  mask := mask
  rxid := rxid
  ropV := ropV
  rop := rop
  value := value

/-- `s` after an exchange with the command `op :: args` has been accepted (R141, R142), written out. -/
def begun (op : Byte) (args : List Byte) (cont : Cont) (s : State) : State :=
  { s with
    xid := s.xid + 1
    ctxV := true
    ctxOp := op
    crc := crc16 ((s.xid + 1) :: op :: args)
    frame := encodeFrame s.cfg (s.xid + 1) (op :: args)
    cont := cont
    st := .sending }

/-- The continuation of the operation that serves a shape (R195, R196). -/
def shapeCont : Shape → Cont
  | .none => .none
  | .acknowledgement => .ack
  | .rawBytes n => .read n
  | .rawBytesScaled perUnit unitCount =>
    if perUnit * unitCount < 65536 then .read (BitVec.ofNat 16 (perUnit * unitCount)) else .none

/-! ## Frames -/

/-- An outbound frame is well formed (R82). -/
def frameWellFormed (p : Params) (f : List Byte) : Bool :=
  let k := crc16 ((f.drop 3).take (f.length - 7))
  (8 ≤ f.length) && f.take 2 == [p.syncA, p.syncB] && (f.getD 2 0).toNat == f.length - 7
    && (1 ≤ (f.getD 2 0).toNat) && f.drop (f.length - 4) == [lowByte k, highByte k, p.syncA, p.syncB]

/-! ## The invariant -/

/-- A state that only an exchange enters (R140): the header of its response is not yet checked. -/
def inExchange : ExchangeState → Bool
  | .sending => true
  | .awaitSync => true
  | .readHdr => true
  | .validated => true
  | .idle => false
  | .readFixed => false
  | .readAck => false
  | .unused => false

/-- What holds in every state a run reaches: R34 (b) to (f) and what the registers' own rules add. -/
structure BlockInv (s : State) : Prop where
  /-- R121: the length byte fits. -/
  cfgWf : s.cfg.wf = true
  /-- R21: code 7 is never entered. -/
  stUsed : s.st ≠ .unused
  /-- R34 (b). -/
  scanBelowLimit : s.st = .awaitSync → s.scanCnt.toNat < 100
  /-- R34 (c). -/
  headerIncomplete : s.st = .readHdr → s.hdrCnt.toNat < 5
  /-- R34 (c). -/
  headerComplete : s.st = .validated → s.hdrCnt = 5
  /-- R34 (d). -/
  fixedIncomplete : s.st = .readFixed → s.rdCnt.toNat < s.rdN.toNat ∧ s.rdBuf.length = s.rdCnt.toNat
  /-- R34 (e). -/
  ackIncomplete : s.st = .readAck → s.ackCnt.toNat < 4
  /-- R34 (f). -/
  ctxValid : inExchange s.st = true → s.ctxV = true
  /-- R25, R82: the frame to be written is well formed, within its length, and carries the id and the opcode. -/
  frameReady : s.st = .sending →
    frameWellFormed s.cfg s.frame = true ∧ s.frame.length ≤ s.cfg.maxCmdLen.toNat + 8
      ∧ s.frame[3]? = some s.xid ∧ s.frame[4]? = some s.ctxOp
  /-- R148, R149: a continuation is pending only until the header is checked. -/
  contTaken : inExchange s.st = false → s.cont = .none
  /-- R27, R213: in a delivered result a mask is there exactly with its status. -/
  maskOfMismatch : s.res.valid = true → (s.res.mask ≠ 0 ↔ s.res.status = .headerMismatch)
  /-- R27, R212: in a delivered result a sub-cause is there only with its status. -/
  subOfTimeout : s.res.valid = true → s.res.status ≠ .timeout → s.res.sub = 0

/-! ## Transitions and bounds -/

/-- The pairs of states of the table of R140, reset apart. -/
def allowedTransition : ExchangeState → ExchangeState → Bool
  | .idle, .idle => true
  | .idle, .sending => true
  | .idle, .readFixed => true
  | .idle, .readAck => true
  | .sending, .awaitSync => true
  | .sending, .idle => true
  | .awaitSync, .awaitSync => true
  | .awaitSync, .readHdr => true
  | .awaitSync, .idle => true
  | .readHdr, .readHdr => true
  | .readHdr, .validated => true
  | .readHdr, .idle => true
  | .validated, .idle => true
  | .validated, .readFixed => true
  | .validated, .readAck => true
  | .readFixed, .readFixed => true
  | .readFixed, .idle => true
  | .readAck, .readAck => true
  | .readAck, .idle => true
  | _, _ => false

/-- How many read attempts a continuation may still make (R178). -/
def contAttempts : Cont → Nat
  | .none => 0
  | .read n => n.toNat
  | .ack => 4

/-- How many block steps the operation in progress may still take when every read attempt ends (R154, R178). -/
def stepsLeft (s : State) : Nat :=
  match s.st with
  | .idle => 0
  | .sending => 1 + 100 + 5 + 1 + contAttempts s.cont
  | .awaitSync => (100 - s.scanCnt.toNat) + 5 + 1 + contAttempts s.cont
  | .readHdr => (5 - s.hdrCnt.toNat) + 1 + contAttempts s.cont
  | .validated => 1 + contAttempts s.cont
  | .readFixed => s.rdN.toNat - s.rdCnt.toNat
  | .readAck => 4 - s.ackCnt.toNat
  | .unused => 0

/-! ## Runs -/

/-- `k` steps of the machine, ended by the first fault or refusal. -/
def runSteps : Nat → State → Host.Outcome State Fault Refusal
  | 0, s => .next s
  | k + 1, s =>
    match step s with
    | .next t => runSteps k t
    | .fault r => .fault r
    | .refused r => .refused r

/-- The block makes the next move. -/
def blockMoves (s : State) : Bool :=
  match s.sched with
  | [] => true
  | .block _ :: _ => true
  | _ => false

/-- An operation that R142 counts: SEND, XREAD or XACK. -/
def isExchange : Instr → Bool
  | .send _ => true
  | .xread _ _ => true
  | .xack _ => true
  | _ => false

/-- The next step accepts an exchange. -/
def acceptsExchange (s : State) : Bool :=
  blockMoves s && s.st == .idle
    && match s.port with
      | some req => isExchange (decode req)
      | none => false

/-- How many of the next `k` steps accept an exchange. -/
def acceptedExchanges : Nat → State → Nat
  | 0, _ => 0
  | k + 1, s =>
    (if acceptsExchange s then 1 else 0)
      + match step s with
        | .next t => acceptedExchanges k t
        | .fault _ => 0
        | .refused _ => 0

/-- No reset is scheduled. -/
def noReset (s : State) : Bool := s.sched.all (· != .reset)

/-- The states that a run reaches: from reset, under any admissible parameters, any stream and any schedule. -/
inductive Reachable : State → Prop where
  | start (p : Params) (sched : List Event) (rxq : List Byte) (closed : Bool) (txlog : List Byte)
      (h : p.wf = true) :
      Reachable { State.reset with cfg := p, sched := sched, rxq := rxq, closed := closed, txlog := txlog }
  | next (s t : State) (hs : Reachable s) (h : step s = .next t) : Reachable t

end Sys2Proof.Machine
end

