-- ==== Sys2Proof/Certificates/Slice0/Obligations.lean ====
section
/-! DEFINITION. The statements for the provers. Each docstring names the rules of spec/ that its statement comes from. -/

open Sys2Proof Sys2Proof.Machine

/-! ## The checksum -/

/-- R100: one bit step, in arithmetic on the 16-bit value. -/
def Obligations.CrcBitStepShiftsAndReduces : Prop :=
  ∀ c : Word16,
    (crcBit c).toNat =
      if 0x8000 ≤ c.toNat then ((c.toNat * 2) % 0x10000) ^^^ 0x1021 else (c.toNat * 2) % 0x10000

/-- R101: a byte is XORed into bits 15..8, and eight bit steps follow. -/
def Obligations.CrcByteIsEightBitSteps : Prop :=
  ∀ (c : Word16) (b : Byte), crcByte c b = crcBit^[8] (c ^^^ BitVec.ofNat 16 (b.toNat * 256))

/-- R102: the start value, and one byte step for each byte in sequence order. -/
def Obligations.Crc16TakesBytesInOrder : Prop :=
  crc16 [] = 0xFFFF ∧ ∀ (bs : List Byte) (b : Byte), crc16 (bs ++ [b]) = crcByte (crc16 bs) b

/-- R106: the engine that takes one byte per step from a table of 256 words has the same state after each byte. -/
def Obligations.CrcByteByTable : Prop :=
  ∀ (c : Word16) (b : Byte), crcByte c b = (c <<< 8) ^^^ crcByte 0 (highByte c ^^^ b)

/-- R105: the checksum appended high byte first leaves the residue 0. -/
def Obligations.CrcResidueHighByteFirst : Prop :=
  ∀ bs : List Byte, crc16 (bs ++ [highByte (crc16 bs), lowByte (crc16 bs)]) = 0

/-- R103, R28, R218: CRC16 ends in its accept step with the checksum, in the current context, and changes nothing
else but `CRC`. -/
def Obligations.Crc16Completes : Prop :=
  ∀ (data : List Byte) (s : State),
    exec (.crc16 data) s =
      .next (delivered (contextResult .ok 0 (.u16 (crc16 data)) s) { s with crc := crc16 data })

/-! ## The frame codec -/

/-- R70: every byte of an outbound frame, and its length. -/
def Obligations.FrameLayout : Prop :=
  ∀ (p : Params) (x : Byte) (cmd : List Byte),
    let f := encodeFrame p x cmd
    let k := (crc16 (x :: cmd)).toNat
    f.length = cmd.length + 8
      ∧ f[0]? = some p.syncA ∧ f[1]? = some p.syncB
      ∧ f[2]? = some (BitVec.ofNat 8 (cmd.length + 1)) ∧ f[3]? = some x
      ∧ (∀ i, i < cmd.length → f[4 + i]? = cmd[i]?)
      ∧ f[4 + cmd.length]? = some (BitVec.ofNat 8 (k % 256))
      ∧ f[5 + cmd.length]? = some (BitVec.ofNat 8 (k / 256))
      ∧ f[6 + cmd.length]? = some p.syncA ∧ f[7 + cmd.length]? = some p.syncB

/-- R82, R71: the encoder's frames are well formed, for every command whose length byte fits. -/
def Obligations.EncodedFramesAreWellFormed : Prop :=
  ∀ (p : Params) (x : Byte) (c : List Byte), c.length ≤ 254 → frameWellFormed p (encodeFrame p x c) = true

/-- R70, R79: without any escaping, a frame still determines its id and its command. -/
def Obligations.FrameDeterminesIdAndCommand : Prop :=
  ∀ (p : Params) (x y : Byte) (c d : List Byte), encodeFrame p x c = encodeFrame p y d → x = y ∧ c = d

/-- R120: ENCODE of a command within the limit gives its frame, in the context of its operands. `CRC` holds the
checksum it computed (log entry 5); no other state changes. -/
def Obligations.EncodeCompletes : Prop :=
  ∀ (x : Byte) (c : List Byte) (s : State), c.length ≤ s.cfg.maxCmdLen.toNat →
    exec (.encode x c) s =
      .next (delivered (operandResult .ok 0 x (!c.isEmpty) (c.headD 0) (.bytes (encodeFrame s.cfg x c)))
        { s with crc := crc16 (x :: c) })

/-- R120, R122: ENCODE of a longer command is `ARG_TOO_LONG`, and no state but `RES` changes. -/
def Obligations.EncodeTooLongFaults : Prop :=
  ∀ (x op : Byte) (c : List Byte) (s : State), s.cfg.maxCmdLen.toNat < (op :: c).length →
    exec (.encode x (op :: c)) s = .next (delivered (operandResult .argTooLong 0 x true op .none) s)

/-- R124: each bit of the mask, by itself. -/
def Obligations.HeaderMaskBits : Prop :=
  ∀ (p : Params) (x op : Byte) (h : HeaderBytes),
    ((hdrMask p x op h).getLsbD 0 = true ↔ h.b0 ≠ p.syncB)
      ∧ ((hdrMask p x op h).getLsbD 1 = true ↔ h.b1 ≠ x)
      ∧ ((hdrMask p x op h).getLsbD 2 = true ↔ h.b2 ≠ op)
      ∧ ((hdrMask p x op h).getLsbD 3 = true ↔ h.b3 ≠ p.syncA)
      ∧ ((hdrMask p x op h).getLsbD 4 = true ↔ h.b4 ≠ p.syncB)

/-- R125: validation passes only for the one header that R76 expects. -/
def Obligations.HeaderPassesOnlyWhenExpected : Prop :=
  ∀ (p : Params) (x op : Byte) (h : HeaderBytes),
    hdrMask p x op h = 0 ↔ h = ⟨p.syncB, x, op, p.syncA, p.syncB⟩

/-- R123, R125: VHDR reports the whole mask in one result, and no state but `RES` changes. -/
def Obligations.VhdrCompletes : Prop :=
  ∀ (x op : Byte) (h : HeaderBytes) (s : State),
    exec (.vhdr x op h) s =
      .next (delivered
        (operandResult (if hdrMask s.cfg x op h = 0 then .ok else .headerMismatch) (hdrMask s.cfg x op h) x true op .none)
        s)

/-! ## Accepting an exchange -/

/-- R141, R142, R174, R175: SEND, XREAD and XACK of a command within the limit advance `XID`, record the opcode,
build the frame with the new id and go to `SENDING`, each with its continuation. `CRC` holds the checksum it computed,
which R141 does not list (the model's deduction, log entry 5); the streams and every register not named here are
unchanged. -/
def Obligations.ExchangeAcceptCompletes : Prop :=
  ∀ (op : Byte) (args : List Byte) (n : Word16) (s : State), (op :: args).length ≤ s.cfg.maxCmdLen.toNat →
    exec (.send (op :: args)) s = .next (begun op args .none s)
      ∧ exec (.xread n (op :: args)) s = .next (begun op args (.read n) s)
      ∧ exec (.xack (op :: args)) s = .next (begun op args .ack s)

/-- R143, R141: an empty command is `ARG_EMPTY`: it consumes an id, clears `CTX_OP.v`, and touches no stream. That
`CTX_OP.op` stays as it was while `CTX_OP.v` is 0, where I23 says any value, is the model's deduction (log entry 15). -/
def Obligations.EmptyCommandFaultsBeforeIO : Prop :=
  ∀ (n : Word16) (s : State),
    let t := delivered (operandResult .argEmpty 0 (s.xid + 1) false 0 .none) { s with xid := s.xid + 1, ctxV := false }
    exec (.send []) s = .next t ∧ exec (.xread n []) s = .next t ∧ exec (.xack []) s = .next t

/-- R143, R122: a command beyond the limit is `ARG_TOO_LONG`: it consumes an id, records the opcode, and touches no
stream. -/
def Obligations.LongCommandFaultsBeforeIO : Prop :=
  ∀ (op : Byte) (args : List Byte) (n : Word16) (s : State), s.cfg.maxCmdLen.toNat < (op :: args).length →
    let t := delivered (operandResult .argTooLong 0 (s.xid + 1) true op .none)
      { s with xid := s.xid + 1, ctxV := true, ctxOp := op }
    exec (.send (op :: args)) s = .next t
      ∧ exec (.xread n (op :: args)) s = .next t
      ∧ exec (.xack (op :: args)) s = .next t

/-- R142, R20: an accept step advances `XID` by one, modulo 256, for SEND, XREAD and XACK, faulting or not, and
for no other request. A wire command counts as the request that carries it (the model's deduction, log entry 17). -/
def Obligations.OnlyExchangesAdvanceXid : Prop :=
  ∀ (i : Instr) (s t : State), exec i s = .next t →
    t.xid.toNat = if isExchange i.expand = true then (s.xid.toNat + 1) % 256 else s.xid.toNat

/-- R153, R20: over any run without a reset, `XID` has advanced by the number of accepted exchanges, modulo 256. -/
def Obligations.XidCountsAcceptedExchanges : Prop :=
  ∀ (k : Nat) (s t : State), noReset s = true → runSteps k s = .next t →
    t.xid.toNat = (s.xid.toNat + acceptedExchanges k s) % 256

/-! ## The steps of an exchange -/

/-- R144: the discard, then the write. On a closed stream nothing is discarded, some number of the frame's bytes may
have been sent, and the operation ends in `IO_ERROR` (R54, R55). -/
def Obligations.SendingStepDiscardsThenWrites : Prop :=
  ∀ (e : Bool) (s : State), s.st = .sending →
    (s.closed = false →
      blockStep e s = .next { s with rxq := [], txlog := s.txlog ++ s.frame, scanCnt := 0, st := .awaitSync })
    ∧ (s.closed = true →
      ∃ k, k ≤ s.frame.length
        ∧ blockStep e s =
          .next (delivered (exchangeResult .ioError 0 0 s)
            { s with txlog := s.txlog ++ s.frame.take k, draws := s.draws + 1 }))

/-- R145: one read attempt of the scan, by its outcome. `e` says whether an attempt that finds nothing times out or
waits (R52). -/
def Obligations.ScanStepByOutcome : Prop :=
  ∀ (e : Bool) (s : State), s.st = .awaitSync →
    (s.closed = true → blockStep e s = .next (delivered (exchangeResult .ioError 0 0 s) s))
    ∧ (∀ rest, s.closed = false → s.rxq = s.cfg.syncA :: rest →
      blockStep e s = .next { s with rxq := rest, hdrCnt := 0, st := .readHdr })
    ∧ (∀ b rest, s.closed = false → s.rxq = b :: rest → b ≠ s.cfg.syncA →
      blockStep e s =
        .next (if s.scanCnt + 1 = 100 then
          delivered (exchangeResult .timeout 0 0 s) { s with rxq := rest, scanCnt := s.scanCnt + 1 }
        else { s with rxq := rest, scanCnt := s.scanCnt + 1 }))
    ∧ (s.closed = false → s.rxq = [] → e = true →
      blockStep e s =
        .next (if s.cfg.scanTimeoutCounts = true then
          (if s.scanCnt + 1 = 100 then
            delivered (exchangeResult .timeout 0 0 s) { s with scanCnt := s.scanCnt + 1 }
          else { s with scanCnt := s.scanCnt + 1 })
        else delivered (exchangeResult .timeout 0 0 s) s))
    ∧ (s.closed = false → s.rxq = [] → e = false → blockStep e s = .next s)

/-- R146: a scan with fewer than 100 other bytes before a SYNC_A ends at it; 100 of them end it in `TIMEOUT(SCAN)`
with the rest unread; and so does silence of 100 attempts, where a timed-out attempt counts. With nothing scheduled, an
attempt that finds nothing times out (the model's choice, log entry 3). -/
def Obligations.ScanBound : Prop :=
  ∀ (s : State) (g rest : List Byte),
    s.st = .awaitSync → s.scanCnt = 0 → s.closed = false → s.sched = [] → (∀ b ∈ g, b ≠ s.cfg.syncA) →
      (g.length < 100 → s.rxq = g ++ s.cfg.syncA :: rest →
        runSteps (g.length + 1) s =
          .next { s with scanCnt := BitVec.ofNat 7 g.length, hdrCnt := 0, st := .readHdr, rxq := rest })
      ∧ (g.length = 100 → s.rxq = g ++ rest →
        runSteps 100 s = .next (delivered (exchangeResult .timeout 0 0 s) { s with scanCnt := 100, rxq := rest }))
      ∧ (s.rxq = [] → s.cfg.scanTimeoutCounts = true →
        runSteps 100 s = .next (delivered (exchangeResult .timeout 0 0 s) { s with scanCnt := 100 }))

/-- R147: one read attempt of the header, by its outcome, while fewer than five bytes are held. -/
def Obligations.HeaderStepByOutcome : Prop :=
  ∀ (e : Bool) (s : State), s.st = .readHdr → s.hdrCnt.toNat < 5 →
    (s.closed = true → blockStep e s = .next (delivered (exchangeResult .ioError 0 0 s) s))
    ∧ (s.closed = false → s.rxq = [] → e = true →
      blockStep e s = .next (delivered (exchangeResult .timeout 1 0 s) s))
    ∧ (s.closed = false → s.rxq = [] → e = false → blockStep e s = .next s)
    ∧ (∀ b rest, s.closed = false → s.rxq = b :: rest →
      blockStep e s =
        .next { s with
          rxq := rest
          hdrBuf :=
            { b0 := if s.hdrCnt = 0 then b else s.hdrBuf.b0
              b1 := if s.hdrCnt = 1 then b else s.hdrBuf.b1
              b2 := if s.hdrCnt = 2 then b else s.hdrBuf.b2
              b3 := if s.hdrCnt = 3 then b else s.hdrBuf.b3
              b4 := if s.hdrCnt = 4 then b else s.hdrBuf.b4 }
          hdrCnt := s.hdrCnt + 1
          st := if s.hdrCnt = 4 then .validated else .readHdr })

/-- R147, R219: a header of fewer than five bytes is `TIMEOUT(HEADER)` and never a mismatch; its bytes are consumed
(R155), and the stream written is as before. With nothing scheduled, the attempt after them times out (the model's
choice, log entry 3). -/
def Obligations.ShortHeaderTimesOut : Prop :=
  ∀ s : State, s.st = .readHdr → s.hdrCnt = 0 → s.closed = false → s.sched = [] → s.rxq.length < 5 →
    ∃ t, runSteps (s.rxq.length + 1) s = .next t ∧ t.st = .idle ∧ t.res = exchangeResult .timeout 1 0 s
      ∧ t.responses = s.responses ++ [t.res] ∧ t.rxq = [] ∧ t.txlog = s.txlog ∧ t.xid = s.xid

/-- R148, R170: the check of the header, and what follows a header that passes. -/
def Obligations.ValidatedStepChecksAndContinues : Prop :=
  ∀ (e : Bool) (s : State), s.st = .validated →
    (hdrMask s.cfg s.xid s.ctxOp s.hdrBuf ≠ 0 →
      blockStep e s =
        .next (delivered (exchangeResult .headerMismatch 0 (hdrMask s.cfg s.xid s.ctxOp s.hdrBuf) s) s))
    ∧ (hdrMask s.cfg s.xid s.ctxOp s.hdrBuf = 0 → s.cont = .none →
      blockStep e s = .next (delivered (exchangeResult .ok 0 0 s) s))
    ∧ (hdrMask s.cfg s.xid s.ctxOp s.hdrBuf = 0 → s.cont = .read 0 →
      blockStep e s = .next (delivered (contextResult .ok 0 (.bytes []) s) s))
    ∧ (∀ n, hdrMask s.cfg s.xid s.ctxOp s.hdrBuf = 0 → n ≠ 0 → s.cont = .read n →
      blockStep e s = .next { s with cont := .none, rdN := n, rdCnt := 0, rdBuf := [], st := .readFixed })
    ∧ (hdrMask s.cfg s.xid s.ctxOp s.hdrBuf = 0 → s.cont = .ack →
      blockStep e s = .next { s with cont := .none, ackCnt := 0, st := .readAck })

/-- R151, R125, R155: the scan stops at the first SYNC_A, the next five bytes are validated in place of a header, and
if they do not match the operation ends in one `HEADER_MISMATCH` with every failing field, whatever its continuation;
what follows stays unread. -/
def Obligations.FalseLockEndsInMismatch : Prop :=
  ∀ (s : State) (h : HeaderBytes) (rest : List Byte),
    s.st = .awaitSync → s.closed = false → s.sched = [] →
      s.rxq = [s.cfg.syncA, h.b0, h.b1, h.b2, h.b3, h.b4] ++ rest →
      hdrMask s.cfg s.xid s.ctxOp h ≠ 0 →
        runSteps 7 s =
          .next (delivered (exchangeResult .headerMismatch 0 (hdrMask s.cfg s.xid s.ctxOp h) s)
            { s with rxq := rest, hdrBuf := h, hdrCnt := 5 })

/-- R141 to R150, R252: a SEND that completes, from its request to its response. What was buffered is discarded, the
frame with the new id is written, fewer than 100 bytes of noise are scanned away, the echoed header is read and
checked, and what follows it is left in `RXQ`. That `CRC` holds the checksum of the frame is the model's deduction (log
entry 5). -/
def Obligations.SendRoundTrip : Prop :=
  ∀ (s : State) (op : Byte) (args g rest : List Byte),
    s.st = .idle → s.closed = false → s.port = some (encode (.send (op :: args))) →
    (op :: args).length ≤ s.cfg.maxCmdLen.toNat → g.length < 100 → (∀ b ∈ g, b ≠ s.cfg.syncA) →
    let inbound := g ++ [s.cfg.syncA, s.cfg.syncB, s.xid + 1, op, s.cfg.syncA, s.cfg.syncB] ++ rest
    s.sched = .block false :: .block false :: inbound.map .arrive →
      runSteps (2 + inbound.length + (g.length + 1) + 5 + 1) s =
        .next (delivered (operandResult .ok 0 (s.xid + 1) true op .none)
          { begun op args .none s with
            port := none
            sched := []
            scanCnt := BitVec.ofNat 7 g.length
            hdrBuf := ⟨s.cfg.syncB, s.xid + 1, op, s.cfg.syncA, s.cfg.syncB⟩
            hdrCnt := 5
            rxq := rest
            txlog := s.txlog ++ encodeFrame s.cfg (s.xid + 1) (op :: args) })

/-- R174, R170, R171: an XREAD whose header passes takes exactly the next n bytes, whatever they are, and none for n = 0:
from a fresh scan, and from its request to its response. That `CRC` holds the checksum of the frame is the model's
deduction (log entry 5). -/
def Obligations.XreadRoundTrip : Prop :=
  (∀ (s : State) (g payload rest : List Byte) (n : Word16),
    s.st = .awaitSync → s.scanCnt = 0 → s.closed = false → s.sched = [] → s.cont = .read n → s.ctxV = true →
    g.length < 100 → (∀ b ∈ g, b ≠ s.cfg.syncA) → payload.length = n.toNat →
    s.rxq = g ++ [s.cfg.syncA, s.cfg.syncB, s.xid, s.ctxOp, s.cfg.syncA, s.cfg.syncB] ++ payload ++ rest →
      runSteps ((g.length + 1) + 5 + 1 + n.toNat) s =
        .next (delivered (operandResult .ok 0 s.xid true s.ctxOp (.bytes payload))
          { s with
            scanCnt := BitVec.ofNat 7 g.length
            hdrBuf := ⟨s.cfg.syncB, s.xid, s.ctxOp, s.cfg.syncA, s.cfg.syncB⟩
            hdrCnt := 5
            rdN := if n = 0 then s.rdN else n
            rdCnt := if n = 0 then s.rdCnt else n
            rdBuf := if n = 0 then s.rdBuf else payload
            rxq := rest }))
  ∧ ∀ (s : State) (op : Byte) (args g payload rest : List Byte) (n : Word16),
    s.st = .idle → s.closed = false → s.port = some (encode (.xread n (op :: args))) →
    (op :: args).length ≤ s.cfg.maxCmdLen.toNat → g.length < 100 → (∀ b ∈ g, b ≠ s.cfg.syncA) →
    payload.length = n.toNat →
    let inbound := g ++ [s.cfg.syncA, s.cfg.syncB, s.xid + 1, op, s.cfg.syncA, s.cfg.syncB] ++ payload ++ rest
    s.sched = .block false :: .block false :: inbound.map .arrive →
      runSteps (2 + inbound.length + (g.length + 1) + 5 + 1 + n.toNat) s =
        .next (delivered (operandResult .ok 0 (s.xid + 1) true op (.bytes payload))
          { begun op args (.read n) s with
            port := none
            sched := []
            scanCnt := BitVec.ofNat 7 g.length
            hdrBuf := ⟨s.cfg.syncB, s.xid + 1, op, s.cfg.syncA, s.cfg.syncB⟩
            hdrCnt := 5
            rdN := if n = 0 then s.rdN else n
            rdCnt := if n = 0 then s.rdCnt else n
            rdBuf := if n = 0 then s.rdBuf else payload
            rxq := rest
            txlog := s.txlog ++ encodeFrame s.cfg (s.xid + 1) (op :: args) })

/-- R175, R173: an XACK whose header passes reads the next four bytes and checks them: from a fresh scan, and from its
request to its response. That `CRC` holds the checksum of the frame is the model's deduction (log entry 5). -/
def Obligations.XackRoundTrip : Prop :=
  (∀ (s : State) (g rest : List Byte) (a b c d : Byte),
    s.st = .awaitSync → s.scanCnt = 0 → s.closed = false → s.sched = [] → s.cont = .ack → s.ctxV = true →
    g.length < 100 → (∀ b ∈ g, b ≠ s.cfg.syncA) →
    s.rxq = g ++ [s.cfg.syncA, s.cfg.syncB, s.xid, s.ctxOp, s.cfg.syncA, s.cfg.syncB] ++ [a, b, c, d] ++ rest →
      runSteps ((g.length + 1) + 5 + 1 + 4) s =
        .next (delivered
          (operandResult (if a = 0xFF ∧ b = 0xFF ∧ c = 0xFF ∧ d = 0xFF then .ok else .ackInvalid) 0 s.xid true s.ctxOp
            .none)
          { s with
            scanCnt := BitVec.ofNat 7 g.length
            hdrBuf := ⟨s.cfg.syncB, s.xid, s.ctxOp, s.cfg.syncA, s.cfg.syncB⟩
            hdrCnt := 5
            ackBuf := ⟨a, b, c, d⟩
            ackCnt := 4
            rxq := rest }))
  ∧ ∀ (s : State) (op : Byte) (args g rest : List Byte) (a b c d : Byte),
    s.st = .idle → s.closed = false → s.port = some (encode (.xack (op :: args))) →
    (op :: args).length ≤ s.cfg.maxCmdLen.toNat → g.length < 100 → (∀ b ∈ g, b ≠ s.cfg.syncA) →
    let inbound := g ++ [s.cfg.syncA, s.cfg.syncB, s.xid + 1, op, s.cfg.syncA, s.cfg.syncB] ++ [a, b, c, d] ++ rest
    s.sched = .block false :: .block false :: inbound.map .arrive →
      runSteps (2 + inbound.length + (g.length + 1) + 5 + 1 + 4) s =
        .next (delivered
          (operandResult (if a = 0xFF ∧ b = 0xFF ∧ c = 0xFF ∧ d = 0xFF then .ok else .ackInvalid) 0 (s.xid + 1) true op
            .none)
          { begun op args .ack s with
            port := none
            sched := []
            scanCnt := BitVec.ofNat 7 g.length
            hdrBuf := ⟨s.cfg.syncB, s.xid + 1, op, s.cfg.syncA, s.cfg.syncB⟩
            hdrCnt := 5
            ackBuf := ⟨a, b, c, d⟩
            ackCnt := 4
            rxq := rest
            txlog := s.txlog ++ encodeFrame s.cfg (s.xid + 1) (op :: args) })

/-! ## Fixed reads and acknowledgements -/

/-- R170, R176: READ of no byte ends at once; READ of n bytes goes to `READ_FIXED`. Neither has a precondition on
an earlier exchange, and neither touches a stream in its accept step. -/
def Obligations.ReadCompletes : Prop :=
  ∀ s : State,
    exec (.read 0) s = .next (delivered (contextResult .ok 0 (.bytes []) s) s)
      ∧ ∀ n : Word16, n ≠ 0 →
        exec (.read n) s = .next { s with rdN := n, rdCnt := 0, rdBuf := [], st := .readFixed }

/-- R170, R171, R252: a READ of n bytes takes the next n bytes of `RXQ` in arrival order, in 1 + n steps. -/
def Obligations.ReadReturnsTheNextBytes : Prop :=
  ∀ (s : State) (n : Word16) (payload rest : List Byte),
    s.st = .idle → s.port = some (encode (.read n)) → s.closed = false → s.sched = [] →
    0 < n.toNat → payload.length = n.toNat → s.rxq = payload ++ rest →
      runSteps (1 + n.toNat) s =
        .next (delivered (contextResult .ok 0 (.bytes payload) s)
          { s with port := none, rdN := n, rdCnt := n, rdBuf := payload, rxq := rest })

/-- R171, R212: a READ that finds fewer bytes is `TIMEOUT(FIXED)`; its bytes are consumed and not returned. With nothing
scheduled, the attempt after them times out (the model's choice, log entry 3). -/
def Obligations.ShortReadTimesOut : Prop :=
  ∀ (s : State) (n : Word16),
    s.st = .idle → s.port = some (encode (.read n)) → s.closed = false → s.sched = [] → s.rxq.length < n.toNat →
      runSteps (1 + s.rxq.length + 1) s =
        .next (delivered (contextResult .timeout 2 .none s)
          { s with
            port := none
            rdN := n
            rdCnt := BitVec.ofNat 16 s.rxq.length
            rdBuf := s.rxq
            rxq := [] })

/-- R172, R176: ACK goes to `READ_ACK` with no byte held, whatever came before it. -/
def Obligations.AckCompletes : Prop :=
  ∀ s : State, exec .ack s = .next { s with ackCnt := 0, st := .readAck }

/-- R172, R173, R252: ACK reads four bytes, even when the first already differs, and succeeds exactly when all are
0xFF; it takes five steps. -/
def Obligations.AckChecksFourBytes : Prop :=
  ∀ (s : State) (a b c d : Byte) (rest : List Byte),
    s.st = .idle → s.port = some (encode .ack) → s.closed = false → s.sched = [] → s.rxq = [a, b, c, d] ++ rest →
      runSteps 5 s =
        .next (delivered
          (contextResult (if a = 0xFF ∧ b = 0xFF ∧ c = 0xFF ∧ d = 0xFF then .ok else .ackInvalid) 0 .none s)
          { s with port := none, ackBuf := ⟨a, b, c, d⟩, ackCnt := 4, rxq := rest })

/-- R173, R215: an acknowledgement read that times out is reported by `SHORT_ACK_KIND`. -/
def Obligations.ShortAckFaultKind : Prop :=
  ∀ s : State, s.st = .readAck → s.closed = false → s.rxq = [] →
    blockStep true s =
      .next (delivered
        (match s.cfg.shortAckKind with
          | .timeout => contextResult .timeout 3 .none s
          | .ackInvalid => contextResult .ackInvalid 0 .none s) s)

/-- R171, R173: one read attempt of a fixed read, from any counter, and of an acknowledgement read, while fewer than
four bytes are held, by its outcome. -/
def Obligations.FixedAndAckStepsByOutcome : Prop :=
  ∀ (e : Bool) (s : State),
    (s.st = .readFixed →
      (s.closed = true → blockStep e s = .next (delivered (contextResult .ioError 0 .none s) s))
      ∧ (s.closed = false → s.rxq = [] → e = true →
        blockStep e s = .next (delivered (contextResult .timeout 2 .none s) s))
      ∧ (s.closed = false → s.rxq = [] → e = false → blockStep e s = .next s)
      ∧ (∀ b rest, s.closed = false → s.rxq = b :: rest → s.rdCnt + 1 ≠ s.rdN →
        blockStep e s = .next { s with rxq := rest, rdBuf := s.rdBuf ++ [b], rdCnt := s.rdCnt + 1 })
      ∧ (∀ b rest, s.closed = false → s.rxq = b :: rest → s.rdCnt + 1 = s.rdN →
        blockStep e s =
          .next (delivered (contextResult .ok 0 (.bytes (s.rdBuf ++ [b])) s)
            { s with rxq := rest, rdBuf := s.rdBuf ++ [b], rdCnt := s.rdN })))
    ∧ (s.st = .readAck → s.ackCnt.toNat < 4 →
      (s.closed = true → blockStep e s = .next (delivered (contextResult .ioError 0 .none s) s))
      ∧ (s.closed = false → s.rxq = [] → e = true →
        blockStep e s =
          .next (delivered
            (match s.cfg.shortAckKind with
              | .timeout => contextResult .timeout 3 .none s
              | .ackInvalid => contextResult .ackInvalid 0 .none s) s))
      ∧ (s.closed = false → s.rxq = [] → e = false → blockStep e s = .next s)
      ∧ (∀ b rest, s.closed = false → s.rxq = b :: rest → s.ackCnt ≠ 3 →
        blockStep e s =
          .next { s with
            rxq := rest
            ackBuf :=
              { b0 := if s.ackCnt = 0 then b else s.ackBuf.b0
                b1 := if s.ackCnt = 1 then b else s.ackBuf.b1
                b2 := if s.ackCnt = 2 then b else s.ackBuf.b2
                b3 := s.ackBuf.b3 }
            ackCnt := s.ackCnt + 1 })
      ∧ (∀ b rest, s.closed = false → s.rxq = b :: rest → s.ackCnt = 3 →
        blockStep e s =
          .next (delivered
            (contextResult
              (if s.ackBuf.b0 = 0xFF ∧ s.ackBuf.b1 = 0xFF ∧ s.ackBuf.b2 = 0xFF ∧ b = 0xFF then .ok else .ackInvalid) 0
              .none s)
            { s with rxq := rest, ackBuf := ⟨s.ackBuf.b0, s.ackBuf.b1, s.ackBuf.b2, b⟩, ackCnt := 4 })))

/-! ## Wire commands -/

/-- R191, R192, R193, R90: SETUP, STOP_STREAMING and STOP_COMMS begin the exchange that carries their bytes, with
nothing to read after the header. That a wire command's meaning is the accept step of its request is the model's
deduction (log entry 17), and so is that `CRC` then holds the checksum of the frame (log entry 5). -/
def Obligations.SetupAndStopCommandsComplete : Prop :=
  ∀ (sel cols rows : Byte) (s : State),
    (4 ≤ s.cfg.maxCmdLen.toNat → exec (.setup sel cols rows) s = .next (begun 0x00 [sel, cols, rows] .none s))
      ∧ (1 ≤ s.cfg.maxCmdLen.toNat →
        exec .stopStreaming s = .next (begun 0x01 [] .none s) ∧ exec .stopComms s = .next (begun 0x02 [] .none s))

/-- R194, R190, R195: each of the 33 device-family opcodes begins the exchange that carries it, with its arguments
copied and the continuation of the shape its catalog gives it: `devop10` to `devop17`, `devop20` to `devop29`,
`devop30` to `devop35` and `devop40` to `devop48`. That a scaled shape beyond 65535 bytes is begun as SEND is the
model's choice (log entry 9). That a wire command's meaning is the accept step of its request (log entry 17), and that
`CRC` then holds the checksum of the frame (log entry 5), are the model's deductions. -/
def Obligations.DeviceOpcodesComplete : Prop :=
  ∀ p ∈ ([
    (Instr.devop10, 0x10), (Instr.devop11, 0x11), (Instr.devop12, 0x12), (Instr.devop13, 0x13),
    (Instr.devop14, 0x14), (Instr.devop15, 0x15), (Instr.devop16, 0x16), (Instr.devop17, 0x17),
    (Instr.devop20, 0x20), (Instr.devop21, 0x21), (Instr.devop22, 0x22), (Instr.devop23, 0x23),
    (Instr.devop24, 0x24), (Instr.devop25, 0x25), (Instr.devop26, 0x26), (Instr.devop27, 0x27),
    (Instr.devop28, 0x28), (Instr.devop29, 0x29), (Instr.devop30, 0x30), (Instr.devop31, 0x31),
    (Instr.devop32, 0x32), (Instr.devop33, 0x33), (Instr.devop34, 0x34), (Instr.devop35, 0x35),
    (Instr.devop40, 0x40), (Instr.devop41, 0x41), (Instr.devop42, 0x42), (Instr.devop43, 0x43),
    (Instr.devop44, 0x44), (Instr.devop45, 0x45), (Instr.devop46, 0x46), (Instr.devop47, 0x47),
    (Instr.devop48, 0x48)] : List ((Shape → List Byte → Instr) × Byte)),
    ∀ (shape : Shape) (args : List Byte) (s : State), (p.2 :: args).length ≤ s.cfg.maxCmdLen.toNat →
      exec (p.1 shape args) s = .next (begun p.2 args (shapeCont shape) s)

/-- R90, R195, R190: every instruction, in every state, does what the request it stands for does. That a wire command
stands for a request is the model's deduction (log entry 17); that a scaled shape beyond 65535 bytes stands for SEND,
where R195 names XREAD, is its choice (log entry 9). -/
def Obligations.WireCommandsRunAsTheirRequests : Prop :=
  ∀ (i : Instr) (s : State), exec i s = exec i.expand s

/-! ## Requests as bytes -/

/-- R87, R217: an illegal request ends in its accept step with `ILLEGAL_OP` in the current context, and no state but
`RES` changes. -/
def Obligations.IllegalCompletes : Prop :=
  ∀ (req : List Byte) (s : State), exec (.illegal req) s = .next (delivered (contextResult .illegalOp 0 .none s) s)

/-- R87, R85, R91: a request is illegal exactly when its OPC is reserved or its length is not the one that its OPC and
count field give. That the empty request is illegal is the model's deduction (log entry 16). -/
def Obligations.IllegalExactlyWhenMalformed : Prop :=
  ∀ req : List Byte, decode req = .illegal req ↔ requestLength req ≠ some req.length

/-- R85, R89, R90, R195: decoding what an instruction is written as gives the request it stands for, every operand at
every value. That a wire command stands for a request (log entry 17) and that the empty request is illegal (log entry
16) are the model's deductions; that a scaled shape beyond 65535 bytes stands for SEND is its choice (log entry 9). -/
def Obligations.DecodeOfEncode : Prop :=
  ∀ i : Instr, i.wellFormed = true → decode (encode i) = i.expand

/-- R85: decoding loses no byte of a request, legal or not. That the empty request is illegal is the model's deduction
(log entry 16). -/
def Obligations.EncodeOfDecode : Prop :=
  ∀ req : List Byte, encode (decode req) = req

/-- R190 to R194: the bytes of a wire command, read back with the shape of its catalog entry, are that command. -/
def Obligations.CommandBytesRoundTrip : Prop :=
  ∀ (i : Instr) (shape : Shape) (cmd : List Byte), i.command? = some (shape, cmd) → decodeCommand shape cmd = i

/-- R85: a few requests written out byte by byte. -/
def Obligations.WrittenRequestsDecode : Prop :=
  decode [0x02, 0x01, 0x04, 0x00, 0x03, 0x02, 0x03] = .encode 0x01 [0x00, 0x03, 0x02, 0x03]
    ∧ decode [0x03, 0x01, 0x00, 0xEF, 0x01, 0x00, 0xCC, 0xEF] = .vhdr 0x01 0x00 ⟨0xEF, 0x01, 0x00, 0xCC, 0xEF⟩
    ∧ decode [0x05, 0x34, 0x12] = .read 0x1234
    ∧ decode [0x07, 0x04, 0x00, 0x05, 0x10, 0x44, 0x00, 0x12, 0x04] = .xread 4 [0x10, 0x44, 0x00, 0x12, 0x04]
    ∧ decode [0x04, 0x03, 0x01] = .illegal [0x04, 0x03, 0x01]
    ∧ decode [0x06, 0x00] = .illegal [0x06, 0x00]

/-- The model's choice of log entry 8: the step after `withFetchWord` runs the instruction that the table word
decodes to, for every word of at most 255 bytes. -/
def Obligations.TableWordIsFetchedAndRun : Prop :=
  ∀ (s : State) (nbits w : Nat) (i : Instr), nbits ≤ 2040 → decodeTableWord nbits w = some i →
    step (s.withFetchWord nbits w) = exec i { s with st := .idle, sched := [], port := none }

/-! ## Steps and runs -/

/-- R84: in `IDLE` a step of the block takes the request at the port and runs the instruction it decodes to; the
request leaves the port, a scheduled move leaves the schedule, and nothing else happens around the instruction. -/
def Obligations.StepRunsTheDecodedRequest : Prop :=
  ∀ (s : State) (req : List Byte), s.st = .idle → s.port = some req →
    (s.sched = [] → step s = exec (decode req) { s with port := none })
    ∧ ∀ (e : Bool) (rest : List Event), s.sched = .block e :: rest →
      step s = exec (decode req) { s with port := none, sched := rest }

/-- R51, R84: the moves of the environment and of the host. -/
def Obligations.EnvironmentAndHostMoves : Prop :=
  ∀ (s : State) (rest : List Event),
    (∀ b, s.sched = .arrive b :: rest → s.closed = false →
      step s = .next { s with sched := rest, rxq := s.rxq ++ [b] })
    ∧ (∀ b, s.sched = .arrive b :: rest → s.closed = true → step s = .next { s with sched := rest })
    ∧ (s.sched = .close :: rest → step s = .next { s with sched := rest, closed := true })
    ∧ (∀ req, s.sched = .present req :: rest → s.port = none →
      step s = .next { s with sched := rest, port := some req })

/-- R84, R250: while an operation is in progress, a presented request stays held. That it also stays held when the
reset line acts and when the host presents a second request is the model's choice (log entry 11). -/
def Obligations.BusyBlockHoldsTheRequest : Prop :=
  ∀ (s t : State) (req : List Byte), s.st ≠ .idle → s.port = some req → step s = .next t → t.port = some req

/-- R140: a step of the block takes `ST` only along the transitions of the table. -/
def Obligations.OnlyTabledTransitions : Prop :=
  ∀ (e : Bool) (s t : State), blockStep e s = .next t → allowedTransition s.st t.st = true

/-- R52, R224: whether a timeout has elapsed makes no difference while `RXQ` holds a byte or the stream is closed. -/
def Obligations.TimeoutOnlyWhenNothingArrived : Prop :=
  ∀ s : State, s.rxq ≠ [] ∨ s.closed = true → blockStep true s = blockStep false s

/-- R34: every step of every agent keeps the invariant. -/
def Obligations.StepKeepsInvariant : Prop :=
  ∀ s t : State, BlockInv s → step s = .next t → BlockInv t

/-- R34, R35: the invariant holds at reset. -/
def Obligations.InvariantAtReset : Prop := BlockInv State.reset

/-- R221, R34: no run from reset, under any parameters, streams and schedule, comes to a state in which the machine
stops. -/
def Obligations.ReachableStatesAlwaysStep : Prop :=
  ∀ s : State, Reachable s → BlockInv s ∧ ∃ t, step s = .next t

/-- R154, R178, R249: with nothing more scheduled (log entry 3: then no attempt waits), an operation in progress ends
within its bound, with its one response. -/
def Obligations.OperationEndsWithinItsBound : Prop :=
  ∀ s : State, BlockInv s → s.sched = [] → s.st ≠ .idle →
    ∃ k t, 1 ≤ k ∧ k ≤ stepsLeft s ∧ runSteps k s = .next t ∧ t.st = .idle ∧ t.responses = s.responses ++ [t.res]

/-- R149, R211, R84: an accept step or a step of a state ends the operation with exactly one response, which is `RES`,
or leaves it in progress with no response and `RES` as it was. -/
def Obligations.OneResponsePerOperation : Prop :=
  ∀ s t : State, (∃ i, exec i s = .next t) ∨ (s.st ≠ .idle ∧ ∃ e, blockStep e s = .next t) →
    (t.st = .idle ∧ t.responses = s.responses ++ [t.res] ∧ t.res.valid = true)
      ∨ (t.st ≠ .idle ∧ t.responses = s.responses ∧ t.res = s.res)

/-- R216, R219, R221, R55: on a closed stream every state that reads or writes ends the operation in `IO_ERROR`, with the
whole result: `rop_v` is 1 in the states of an exchange and `CTX_OP.v` in `READ_FIXED` and `READ_ACK`; `sub`, `mask` and
the value are 0 and none. `SENDING` may have sent some of its frame; nothing else but the end of the operation changes,
and nothing is read. -/
def Obligations.ClosedStreamEndsInIOError : Prop :=
  ∀ (e : Bool) (s : State), s.closed = true →
    (s.st = .sending →
      ∃ k, k ≤ s.frame.length
        ∧ blockStep e s =
          .next (delivered (exchangeResult .ioError 0 0 s)
            { s with txlog := s.txlog ++ s.frame.take k, draws := s.draws + 1 }))
    ∧ (s.st = .awaitSync ∨ s.st = .readHdr → blockStep e s = .next (delivered (exchangeResult .ioError 0 0 s) s))
    ∧ (s.st = .readFixed ∨ s.st = .readAck →
      blockStep e s = .next (delivered (contextResult .ioError 0 .none s) s))

/-- R29, R51, R52, R54, R55, R60: no step changes the configuration or opens a closed stream; `TXLOG` only grows at
its end; `RXQ` grows only at its end, by one byte, and shrinks only at its front, by one byte, or by the discard of
`SENDING`. -/
def Obligations.StreamsAreQueues : Prop :=
  ∀ s t : State, step s = .next t →
    t.cfg = s.cfg ∧ (s.closed = true → t.closed = true) ∧ s.txlog <+: t.txlog
      ∧ (t.rxq = s.rxq ∨ (∃ b, t.rxq = s.rxq ++ [b]) ∨ (∃ b, s.rxq = b :: t.rxq) ∨ (s.st = .sending ∧ t.rxq = []))

/-- R240, R241, R35: the reset line puts the registers that the spec gives a reset value at that value, delivers no
response, and leaves the configuration and the streams as they are. -/
def Obligations.ResetLineGivesResetValues : Prop :=
  ∀ (s : State) (rest : List Event), s.sched = .reset :: rest →
    ∃ t, step s = .next t
      ∧ t.xid = 0 ∧ t.st = .idle ∧ t.scanCnt = 0 ∧ t.hdrCnt = 0 ∧ t.ctxV = false ∧ t.rdCnt = 0 ∧ t.ackCnt = 0
      ∧ t.cont = .none ∧ t.res.valid = false
      ∧ t.cfg = s.cfg ∧ t.rxq = s.rxq ∧ t.closed = s.closed ∧ t.txlog = s.txlog ∧ t.responses = s.responses

/-- R88, R210, R27: the bytes of a response, field by field, with the code of each status; and two responses whose
values have one form and whose bytes agree are the same response, where `rop` is 0 without its valid bit and a byte
sequence fits its length field. -/
def Obligations.ResponseBytesDetermineTheResponse : Prop :=
  (∀ r : Result, ∃ b0 b1 : Byte,
    responseBytes r =
        b0 :: b1 :: r.rxid :: (if r.ropV = true then r.rop else 0) ::
          (match r.value with
            | .none => []
            | .u16 v => [v.extractLsb' 0 8, v.extractLsb' 8 8]
            | .bytes bs => BitVec.ofNat 8 bs.length :: BitVec.ofNat 8 (bs.length / 256) :: bs)
      ∧ b0.extractLsb' 0 4 =
        (match r.status with
          | .ok => 0x0#4
          | .argTooLong => 0x1#4
          | .argEmpty => 0x2#4
          | .timeout => 0x3#4
          | .headerMismatch => 0x4#4
          | .ackInvalid => 0x5#4
          | .ioError => 0x6#4
          | .illegalOp => 0x7#4)
      ∧ b0.extractLsb' 4 2 = r.sub ∧ b0.getLsbD 6 = r.ropV ∧ b0.getLsbD 7 = false
      ∧ b1.extractLsb' 0 5 = r.mask ∧ b1.extractLsb' 5 3 = 0x0#3)
  ∧ ∀ r q : Result, r.valid = q.valid → (r.ropV = false → r.rop = 0) → (q.ropV = false → q.rop = 0) →
    ((r.value = .none ∧ q.value = .none) ∨ (∃ v w, r.value = .u16 v ∧ q.value = .u16 w)
      ∨ (∃ a b, r.value = .bytes a ∧ q.value = .bytes b ∧ a.length ≤ 65535 ∧ b.length ≤ 65535)) →
    responseBytes r = responseBytes q → r = q
end

