-- ==== Sys2Proof/Laws/State.lean ====
section
/-! SUPPORT. What the shared operations that change a fixed set of fields do to each field of the state, one lemma a
field. -/

namespace Sys2Proof.Machine

variable (s : State) (r : Result) (status : Status) (sub : BitVec 2) (mask : BitVec 5) (v : Bool) (x : Value)
  (bytes : List Byte)

/-! ## finish -/

@[simp] theorem finish_cfg : (finish r s).cfg = s.cfg := rfl
@[simp] theorem finish_xid : (finish r s).xid = s.xid := rfl
@[simp] theorem finish_st : (finish r s).st = .idle := rfl
@[simp] theorem finish_scanCnt : (finish r s).scanCnt = s.scanCnt := rfl
@[simp] theorem finish_hdrBuf : (finish r s).hdrBuf = s.hdrBuf := rfl
@[simp] theorem finish_hdrCnt : (finish r s).hdrCnt = s.hdrCnt := rfl
@[simp] theorem finish_ctxV : (finish r s).ctxV = s.ctxV := rfl
@[simp] theorem finish_ctxOp : (finish r s).ctxOp = s.ctxOp := rfl
@[simp] theorem finish_frame : (finish r s).frame = s.frame := rfl
@[simp] theorem finish_rdN : (finish r s).rdN = s.rdN := rfl
@[simp] theorem finish_rdCnt : (finish r s).rdCnt = s.rdCnt := rfl
@[simp] theorem finish_rdBuf : (finish r s).rdBuf = s.rdBuf := rfl
@[simp] theorem finish_ackBuf : (finish r s).ackBuf = s.ackBuf := rfl
@[simp] theorem finish_ackCnt : (finish r s).ackCnt = s.ackCnt := rfl
@[simp] theorem finish_cont : (finish r s).cont = .none := rfl
@[simp] theorem finish_res : (finish r s).res = { r with valid := true } := rfl
@[simp] theorem finish_crc : (finish r s).crc = s.crc := rfl
@[simp] theorem finish_rxq : (finish r s).rxq = s.rxq := rfl
@[simp] theorem finish_closed : (finish r s).closed = s.closed := rfl
@[simp] theorem finish_txlog : (finish r s).txlog = s.txlog := rfl
@[simp] theorem finish_port : (finish r s).port = s.port := rfl
@[simp] theorem finish_responses : (finish r s).responses = s.responses ++ [{ r with valid := true }] := rfl
@[simp] theorem finish_sched : (finish r s).sched = s.sched := rfl
@[simp] theorem finish_draws : (finish r s).draws = s.draws := rfl

/-! ## raiseFault -/

@[simp] theorem raiseFault_cfg : (raiseFault status sub mask v s).cfg = s.cfg := rfl
@[simp] theorem raiseFault_xid : (raiseFault status sub mask v s).xid = s.xid := rfl
@[simp] theorem raiseFault_st : (raiseFault status sub mask v s).st = .idle := rfl
@[simp] theorem raiseFault_scanCnt : (raiseFault status sub mask v s).scanCnt = s.scanCnt := rfl
@[simp] theorem raiseFault_hdrBuf : (raiseFault status sub mask v s).hdrBuf = s.hdrBuf := rfl
@[simp] theorem raiseFault_hdrCnt : (raiseFault status sub mask v s).hdrCnt = s.hdrCnt := rfl
@[simp] theorem raiseFault_ctxV : (raiseFault status sub mask v s).ctxV = s.ctxV := rfl
@[simp] theorem raiseFault_ctxOp : (raiseFault status sub mask v s).ctxOp = s.ctxOp := rfl
@[simp] theorem raiseFault_frame : (raiseFault status sub mask v s).frame = s.frame := rfl
@[simp] theorem raiseFault_rdN : (raiseFault status sub mask v s).rdN = s.rdN := rfl
@[simp] theorem raiseFault_rdCnt : (raiseFault status sub mask v s).rdCnt = s.rdCnt := rfl
@[simp] theorem raiseFault_rdBuf : (raiseFault status sub mask v s).rdBuf = s.rdBuf := rfl
@[simp] theorem raiseFault_ackBuf : (raiseFault status sub mask v s).ackBuf = s.ackBuf := rfl
@[simp] theorem raiseFault_ackCnt : (raiseFault status sub mask v s).ackCnt = s.ackCnt := rfl
@[simp] theorem raiseFault_cont : (raiseFault status sub mask v s).cont = .none := rfl
@[simp] theorem raiseFault_res : (raiseFault status sub mask v s).res =
    { valid := true, status := status, sub := sub, mask := mask, rxid := s.xid, ropV := v, rop := s.ctxOp, value := .none } := rfl
@[simp] theorem raiseFault_crc : (raiseFault status sub mask v s).crc = s.crc := rfl
@[simp] theorem raiseFault_rxq : (raiseFault status sub mask v s).rxq = s.rxq := rfl
@[simp] theorem raiseFault_closed : (raiseFault status sub mask v s).closed = s.closed := rfl
@[simp] theorem raiseFault_txlog : (raiseFault status sub mask v s).txlog = s.txlog := rfl
@[simp] theorem raiseFault_port : (raiseFault status sub mask v s).port = s.port := rfl
@[simp] theorem raiseFault_responses : (raiseFault status sub mask v s).responses =
    s.responses ++ [{ valid := true, status := status, sub := sub, mask := mask, rxid := s.xid, ropV := v, rop := s.ctxOp, value := .none }] := rfl
@[simp] theorem raiseFault_sched : (raiseFault status sub mask v s).sched = s.sched := rfl
@[simp] theorem raiseFault_draws : (raiseFault status sub mask v s).draws = s.draws := rfl

/-! ## finishOk -/

@[simp] theorem finishOk_cfg : (finishOk v x s).cfg = s.cfg := rfl
@[simp] theorem finishOk_xid : (finishOk v x s).xid = s.xid := rfl
@[simp] theorem finishOk_st : (finishOk v x s).st = .idle := rfl
@[simp] theorem finishOk_scanCnt : (finishOk v x s).scanCnt = s.scanCnt := rfl
@[simp] theorem finishOk_hdrBuf : (finishOk v x s).hdrBuf = s.hdrBuf := rfl
@[simp] theorem finishOk_hdrCnt : (finishOk v x s).hdrCnt = s.hdrCnt := rfl
@[simp] theorem finishOk_ctxV : (finishOk v x s).ctxV = s.ctxV := rfl
@[simp] theorem finishOk_ctxOp : (finishOk v x s).ctxOp = s.ctxOp := rfl
@[simp] theorem finishOk_frame : (finishOk v x s).frame = s.frame := rfl
@[simp] theorem finishOk_rdN : (finishOk v x s).rdN = s.rdN := rfl
@[simp] theorem finishOk_rdCnt : (finishOk v x s).rdCnt = s.rdCnt := rfl
@[simp] theorem finishOk_rdBuf : (finishOk v x s).rdBuf = s.rdBuf := rfl
@[simp] theorem finishOk_ackBuf : (finishOk v x s).ackBuf = s.ackBuf := rfl
@[simp] theorem finishOk_ackCnt : (finishOk v x s).ackCnt = s.ackCnt := rfl
@[simp] theorem finishOk_cont : (finishOk v x s).cont = .none := rfl
@[simp] theorem finishOk_res : (finishOk v x s).res =
    { valid := true, status := .ok, sub := 0, mask := 0, rxid := s.xid, ropV := v, rop := s.ctxOp, value := x } := rfl
@[simp] theorem finishOk_crc : (finishOk v x s).crc = s.crc := rfl
@[simp] theorem finishOk_rxq : (finishOk v x s).rxq = s.rxq := rfl
@[simp] theorem finishOk_closed : (finishOk v x s).closed = s.closed := rfl
@[simp] theorem finishOk_txlog : (finishOk v x s).txlog = s.txlog := rfl
@[simp] theorem finishOk_port : (finishOk v x s).port = s.port := rfl
@[simp] theorem finishOk_responses : (finishOk v x s).responses =
    s.responses ++ [{ valid := true, status := .ok, sub := 0, mask := 0, rxid := s.xid, ropV := v, rop := s.ctxOp, value := x }] := rfl
@[simp] theorem finishOk_sched : (finishOk v x s).sched = s.sched := rfl
@[simp] theorem finishOk_draws : (finishOk v x s).draws = s.draws := rfl

/-! ## runCrc -/

@[simp] theorem runCrc_cfg : (runCrc bytes s).cfg = s.cfg := rfl
@[simp] theorem runCrc_xid : (runCrc bytes s).xid = s.xid := rfl
@[simp] theorem runCrc_st : (runCrc bytes s).st = s.st := rfl
@[simp] theorem runCrc_scanCnt : (runCrc bytes s).scanCnt = s.scanCnt := rfl
@[simp] theorem runCrc_hdrBuf : (runCrc bytes s).hdrBuf = s.hdrBuf := rfl
@[simp] theorem runCrc_hdrCnt : (runCrc bytes s).hdrCnt = s.hdrCnt := rfl
@[simp] theorem runCrc_ctxV : (runCrc bytes s).ctxV = s.ctxV := rfl
@[simp] theorem runCrc_ctxOp : (runCrc bytes s).ctxOp = s.ctxOp := rfl
@[simp] theorem runCrc_frame : (runCrc bytes s).frame = s.frame := rfl
@[simp] theorem runCrc_rdN : (runCrc bytes s).rdN = s.rdN := rfl
@[simp] theorem runCrc_rdCnt : (runCrc bytes s).rdCnt = s.rdCnt := rfl
@[simp] theorem runCrc_rdBuf : (runCrc bytes s).rdBuf = s.rdBuf := rfl
@[simp] theorem runCrc_ackBuf : (runCrc bytes s).ackBuf = s.ackBuf := rfl
@[simp] theorem runCrc_ackCnt : (runCrc bytes s).ackCnt = s.ackCnt := rfl
@[simp] theorem runCrc_cont : (runCrc bytes s).cont = s.cont := rfl
@[simp] theorem runCrc_res : (runCrc bytes s).res = s.res := rfl
@[simp] theorem runCrc_crc : (runCrc bytes s).crc = crc16 bytes := rfl
@[simp] theorem runCrc_rxq : (runCrc bytes s).rxq = s.rxq := rfl
@[simp] theorem runCrc_closed : (runCrc bytes s).closed = s.closed := rfl
@[simp] theorem runCrc_txlog : (runCrc bytes s).txlog = s.txlog := rfl
@[simp] theorem runCrc_port : (runCrc bytes s).port = s.port := rfl
@[simp] theorem runCrc_responses : (runCrc bytes s).responses = s.responses := rfl
@[simp] theorem runCrc_sched : (runCrc bytes s).sched = s.sched := rfl
@[simp] theorem runCrc_draws : (runCrc bytes s).draws = s.draws := rfl

/-! ## nextXid -/

@[simp] theorem nextXid_cfg : (nextXid s).cfg = s.cfg := rfl
@[simp] theorem nextXid_xid : (nextXid s).xid = s.xid + 1 := rfl
@[simp] theorem nextXid_st : (nextXid s).st = s.st := rfl
@[simp] theorem nextXid_scanCnt : (nextXid s).scanCnt = s.scanCnt := rfl
@[simp] theorem nextXid_hdrBuf : (nextXid s).hdrBuf = s.hdrBuf := rfl
@[simp] theorem nextXid_hdrCnt : (nextXid s).hdrCnt = s.hdrCnt := rfl
@[simp] theorem nextXid_ctxV : (nextXid s).ctxV = s.ctxV := rfl
@[simp] theorem nextXid_ctxOp : (nextXid s).ctxOp = s.ctxOp := rfl
@[simp] theorem nextXid_frame : (nextXid s).frame = s.frame := rfl
@[simp] theorem nextXid_rdN : (nextXid s).rdN = s.rdN := rfl
@[simp] theorem nextXid_rdCnt : (nextXid s).rdCnt = s.rdCnt := rfl
@[simp] theorem nextXid_rdBuf : (nextXid s).rdBuf = s.rdBuf := rfl
@[simp] theorem nextXid_ackBuf : (nextXid s).ackBuf = s.ackBuf := rfl
@[simp] theorem nextXid_ackCnt : (nextXid s).ackCnt = s.ackCnt := rfl
@[simp] theorem nextXid_cont : (nextXid s).cont = s.cont := rfl
@[simp] theorem nextXid_res : (nextXid s).res = s.res := rfl
@[simp] theorem nextXid_crc : (nextXid s).crc = s.crc := rfl
@[simp] theorem nextXid_rxq : (nextXid s).rxq = s.rxq := rfl
@[simp] theorem nextXid_closed : (nextXid s).closed = s.closed := rfl
@[simp] theorem nextXid_txlog : (nextXid s).txlog = s.txlog := rfl
@[simp] theorem nextXid_port : (nextXid s).port = s.port := rfl
@[simp] theorem nextXid_responses : (nextXid s).responses = s.responses := rfl
@[simp] theorem nextXid_sched : (nextXid s).sched = s.sched := rfl
@[simp] theorem nextXid_draws : (nextXid s).draws = s.draws := rfl

/-! ## startAck -/

@[simp] theorem startAck_cfg : (startAck s).cfg = s.cfg := rfl
@[simp] theorem startAck_xid : (startAck s).xid = s.xid := rfl
@[simp] theorem startAck_st : (startAck s).st = .readAck := rfl
@[simp] theorem startAck_scanCnt : (startAck s).scanCnt = s.scanCnt := rfl
@[simp] theorem startAck_hdrBuf : (startAck s).hdrBuf = s.hdrBuf := rfl
@[simp] theorem startAck_hdrCnt : (startAck s).hdrCnt = s.hdrCnt := rfl
@[simp] theorem startAck_ctxV : (startAck s).ctxV = s.ctxV := rfl
@[simp] theorem startAck_ctxOp : (startAck s).ctxOp = s.ctxOp := rfl
@[simp] theorem startAck_frame : (startAck s).frame = s.frame := rfl
@[simp] theorem startAck_rdN : (startAck s).rdN = s.rdN := rfl
@[simp] theorem startAck_rdCnt : (startAck s).rdCnt = s.rdCnt := rfl
@[simp] theorem startAck_rdBuf : (startAck s).rdBuf = s.rdBuf := rfl
@[simp] theorem startAck_ackBuf : (startAck s).ackBuf = s.ackBuf := rfl
@[simp] theorem startAck_ackCnt : (startAck s).ackCnt = 0 := rfl
@[simp] theorem startAck_cont : (startAck s).cont = s.cont := rfl
@[simp] theorem startAck_res : (startAck s).res = s.res := rfl
@[simp] theorem startAck_crc : (startAck s).crc = s.crc := rfl
@[simp] theorem startAck_rxq : (startAck s).rxq = s.rxq := rfl
@[simp] theorem startAck_closed : (startAck s).closed = s.closed := rfl
@[simp] theorem startAck_txlog : (startAck s).txlog = s.txlog := rfl
@[simp] theorem startAck_port : (startAck s).port = s.port := rfl
@[simp] theorem startAck_responses : (startAck s).responses = s.responses := rfl
@[simp] theorem startAck_sched : (startAck s).sched = s.sched := rfl
@[simp] theorem startAck_draws : (startAck s).draws = s.draws := rfl

/-! ## close -/

@[simp] theorem close_cfg : (close s).cfg = s.cfg := rfl
@[simp] theorem close_xid : (close s).xid = s.xid := rfl
@[simp] theorem close_st : (close s).st = s.st := rfl
@[simp] theorem close_scanCnt : (close s).scanCnt = s.scanCnt := rfl
@[simp] theorem close_hdrBuf : (close s).hdrBuf = s.hdrBuf := rfl
@[simp] theorem close_hdrCnt : (close s).hdrCnt = s.hdrCnt := rfl
@[simp] theorem close_ctxV : (close s).ctxV = s.ctxV := rfl
@[simp] theorem close_ctxOp : (close s).ctxOp = s.ctxOp := rfl
@[simp] theorem close_frame : (close s).frame = s.frame := rfl
@[simp] theorem close_rdN : (close s).rdN = s.rdN := rfl
@[simp] theorem close_rdCnt : (close s).rdCnt = s.rdCnt := rfl
@[simp] theorem close_rdBuf : (close s).rdBuf = s.rdBuf := rfl
@[simp] theorem close_ackBuf : (close s).ackBuf = s.ackBuf := rfl
@[simp] theorem close_ackCnt : (close s).ackCnt = s.ackCnt := rfl
@[simp] theorem close_cont : (close s).cont = s.cont := rfl
@[simp] theorem close_res : (close s).res = s.res := rfl
@[simp] theorem close_crc : (close s).crc = s.crc := rfl
@[simp] theorem close_rxq : (close s).rxq = s.rxq := rfl
@[simp] theorem close_closed : (close s).closed = true := rfl
@[simp] theorem close_txlog : (close s).txlog = s.txlog := rfl
@[simp] theorem close_port : (close s).port = s.port := rfl
@[simp] theorem close_responses : (close s).responses = s.responses := rfl
@[simp] theorem close_sched : (close s).sched = s.sched := rfl
@[simp] theorem close_draws : (close s).draws = s.draws := rfl

/-! ## resetLine -/

@[simp] theorem resetLine_cfg : (resetLine s).cfg = s.cfg := rfl
@[simp] theorem resetLine_xid : (resetLine s).xid = 0 := rfl
@[simp] theorem resetLine_st : (resetLine s).st = .idle := rfl
@[simp] theorem resetLine_scanCnt : (resetLine s).scanCnt = 0 := rfl
@[simp] theorem resetLine_hdrBuf : (resetLine s).hdrBuf = ⟨0, 0, 0, 0, 0⟩ := rfl
@[simp] theorem resetLine_hdrCnt : (resetLine s).hdrCnt = 0 := rfl
@[simp] theorem resetLine_ctxV : (resetLine s).ctxV = false := rfl
@[simp] theorem resetLine_ctxOp : (resetLine s).ctxOp = 0 := rfl
@[simp] theorem resetLine_frame : (resetLine s).frame = [] := rfl
@[simp] theorem resetLine_rdN : (resetLine s).rdN = 0 := rfl
@[simp] theorem resetLine_rdCnt : (resetLine s).rdCnt = 0 := rfl
@[simp] theorem resetLine_rdBuf : (resetLine s).rdBuf = [] := rfl
@[simp] theorem resetLine_ackBuf : (resetLine s).ackBuf = ⟨0, 0, 0, 0⟩ := rfl
@[simp] theorem resetLine_ackCnt : (resetLine s).ackCnt = 0 := rfl
@[simp] theorem resetLine_cont : (resetLine s).cont = .none := rfl
@[simp] theorem resetLine_res : (resetLine s).res = Result.blank := rfl
@[simp] theorem resetLine_crc : (resetLine s).crc = 0 := rfl
@[simp] theorem resetLine_rxq : (resetLine s).rxq = s.rxq := rfl
@[simp] theorem resetLine_closed : (resetLine s).closed = s.closed := rfl
@[simp] theorem resetLine_txlog : (resetLine s).txlog = s.txlog := rfl
@[simp] theorem resetLine_port : (resetLine s).port = s.port := rfl
@[simp] theorem resetLine_responses : (resetLine s).responses = s.responses := rfl
@[simp] theorem resetLine_sched : (resetLine s).sched = s.sched := rfl
@[simp] theorem resetLine_draws : (resetLine s).draws = s.draws := rfl

end Sys2Proof.Machine
end

