-- ==== Sys2Proof/Laws/Ops.lean ====
section
/-! SUPPORT. One lemma for each shared operation that says everything it can do. -/

namespace Sys2Proof.Machine

/-! ## Frame -/

@[simp] theorem encodeFrame_length (p : Params) (x : Byte) (cmd : List Byte) :
    (encodeFrame p x cmd).length = cmd.length + 8 := by
  simp [encodeFrame]

/-! ## Streams -/

/-- R52: a read attempt waits exactly when the stream is open, nothing has arrived and no timeout has elapsed. -/
theorem rxRead_waits_iff (e : Bool) (s : State) :
    rxRead e s = none ↔ s.closed = false ∧ s.rxq = [] ∧ e = false := by
  unfold rxRead
  cases s.closed <;> cases s.rxq <;> cases e <;> simp

/-- R52: the three ends of a read attempt. -/
theorem rxRead_cases {e : Bool} {s t : State} {o : RxOutcome} (h : rxRead e s = some (o, t)) :
    (s.closed = true ∧ o = .ioErr ∧ t = s)
      ∨ (s.closed = false ∧ ∃ b rest, s.rxq = b :: rest ∧ o = .byte b ∧ t = { s with rxq := rest })
      ∨ (s.closed = false ∧ s.rxq = [] ∧ e = true ∧ o = .timeout ∧ t = s) := by
  unfold rxRead at h
  split at h
  · next hc =>
    obtain ⟨rfl, rfl⟩ := Prod.mk.inj (Option.some.inj h)
    exact .inl ⟨hc, rfl, rfl⟩
  · next hc =>
    have hc : s.closed = false := by simpa using hc
    split at h
    · next b rest hq =>
      obtain ⟨rfl, rfl⟩ := Prod.mk.inj (Option.some.inj h)
      exact .inr (.inl ⟨hc, b, rest, hq, rfl, rfl⟩)
    · next hq =>
      split at h
      · next he =>
        obtain ⟨rfl, rfl⟩ := Prod.mk.inj (Option.some.inj h)
        exact .inr (.inr ⟨hc, hq, he, rfl, rfl⟩)
      · cases h

theorem rxRead_closed {e : Bool} {s : State} (h : s.closed = true) : rxRead e s = some (.ioErr, s) := by
  simp [rxRead, h]

theorem rxRead_byte {e : Bool} {s : State} {b : Byte} {rest : List Byte} (h : s.closed = false)
    (hq : s.rxq = b :: rest) : rxRead e s = some (.byte b, { s with rxq := rest }) := by
  simp [rxRead, h, hq]

theorem rxRead_empty {e : Bool} {s : State} (h : s.closed = false) (hq : s.rxq = []) :
    rxRead e s = if e then some (.timeout, s) else none := by
  simp [rxRead, h, hq]

theorem rxDiscard_open {s : State} (h : s.closed = false) : rxDiscard s = { s with rxq := [] } := by
  simp [rxDiscard, h]

theorem rxDiscard_closed {s : State} (h : s.closed = true) : rxDiscard s = s := by
  simp [rxDiscard, h]

theorem txWrite_open {s : State} (bytes : List Byte) (h : s.closed = false) :
    txWrite bytes s = (true, { s with txlog := s.txlog ++ bytes }) := by
  simp [txWrite, h]

theorem txWrite_closed {s : State} (bytes : List Byte) (h : s.closed = true) :
    txWrite bytes s =
      (false,
        { s with
          txlog := s.txlog ++ bytes.take (min (Config.writeCut s.draws) bytes.length)
          draws := s.draws + 1 }) := by
  simp [txWrite, h]

theorem arrive_open {s : State} (b : Byte) (h : s.closed = false) : arrive b s = { s with rxq := s.rxq ++ [b] } := by
  simp [arrive, h]

theorem arrive_closed {s : State} (b : Byte) (h : s.closed = true) : arrive b s = s := by
  simp [arrive, h]

/-! ## Accept steps -/

theorem beginExchange_empty (c : Cont) (s : State) :
    beginExchange [] c s =
      finish { Result.blank with status := .argEmpty, rxid := s.xid + 1 } { nextXid s with ctxV := false } := rfl

theorem beginExchange_tooLong {op : Byte} {args : List Byte} {s : State} (c : Cont)
    (h : s.cfg.maxCmdLen.toNat < (op :: args).length) :
    beginExchange (op :: args) c s =
      raiseFault .argTooLong 0 0 true { nextXid s with ctxV := true, ctxOp := op } := by
  simpa [beginExchange] using fun h' => absurd h (by simpa using h')

theorem beginExchange_accepted {op : Byte} {args : List Byte} {s : State} (c : Cont)
    (h : (op :: args).length ≤ s.cfg.maxCmdLen.toNat) :
    beginExchange (op :: args) c s =
      { s with
        xid := s.xid + 1
        ctxV := true
        ctxOp := op
        crc := crc16 ((s.xid + 1) :: op :: args)
        frame := encodeFrame s.cfg (s.xid + 1) (op :: args)
        cont := c
        st := .sending } := by
  have h' : ¬ s.cfg.maxCmdLen.toNat < args.length + 1 := by simpa using h
  simp [beginExchange, h', nextXid, runCrc]

theorem startRead_zero (s : State) : startRead 0 s = finishOk s.ctxV (.bytes []) s := by
  simp [startRead]

theorem startRead_pos {n : Word16} (s : State) (h : n ≠ 0) :
    startRead n s = { s with rdN := n, rdCnt := 0, rdBuf := [], st := .readFixed } := by
  unfold startRead
  exact if_neg h

/-! ## Request port -/

theorem present_free {s : State} (req : List Byte) (h : s.port = none) : present req s = { s with port := some req } := by
  simp [present, h]

theorem present_held {s : State} {held : List Byte} (req : List Byte) (h : s.port = some held) : present req s = s := by
  simp [present, h]

end Sys2Proof.Machine
end

