-- ==== Sys2Proof/Laws/Steps.lean ====
section
/-! SUPPORT. What the steps of the exchange states do, by the outcome of their read attempt, and which step runs. -/

namespace Sys2Proof.Machine

/-! ## Which step runs -/

theorem step_unscheduled {s : State} (h : s.sched = []) : step s = blockStep true s := by
  simp [step, h]

theorem step_scheduled {s : State} {e : Event} {rest : List Event} (h : s.sched = e :: rest) :
    step s = runEvent e { s with sched := rest } := by
  simp [step, h]

theorem blockStep_accepts {s : State} {req : List Byte} (e : Bool) (h : s.st = .idle) (hp : s.port = some req) :
    blockStep e s = exec (decode req) { s with port := none } := by
  simp [blockStep, h, hp]

theorem blockStep_idle {s : State} (e : Bool) (h : s.st = .idle) (hp : s.port = none) : blockStep e s = .next s := by
  simp [blockStep, h, hp]

theorem blockStep_sending {s : State} (e : Bool) (h : s.st = .sending) : blockStep e s = .next (sendingStep s) := by
  simp [blockStep, h]

theorem blockStep_awaitSync {s : State} (e : Bool) (h : s.st = .awaitSync) :
    blockStep e s = .next (awaitSyncStep e s) := by
  simp [blockStep, h]

theorem blockStep_readHdr {s : State} (e : Bool) (h : s.st = .readHdr) : blockStep e s = .next (readHdrStep e s) := by
  simp [blockStep, h]

theorem blockStep_validated {s : State} (e : Bool) (h : s.st = .validated) :
    blockStep e s = .next (validatedStep s) := by
  simp [blockStep, h]

theorem blockStep_readFixed {s : State} (e : Bool) (h : s.st = .readFixed) :
    blockStep e s = .next (readFixedStep e s) := by
  simp [blockStep, h]

theorem blockStep_readAck {s : State} (e : Bool) (h : s.st = .readAck) : blockStep e s = .next (readAckStep e s) := by
  simp [blockStep, h]

/-! ## The steps that read, by the outcome of the attempt -/

theorem awaitSyncStep_sync {e : Bool} {s t : State} {b : Byte} (h : rxRead e s = some (.byte b, t))
    (hb : b = t.cfg.syncA) : awaitSyncStep e s = { t with hdrCnt := 0, st := .readHdr } := by
  simp [awaitSyncStep, h, hb]

theorem awaitSyncStep_other {e : Bool} {s t : State} {b : Byte} (h : rxRead e s = some (.byte b, t))
    (hb : b ≠ t.cfg.syncA) : awaitSyncStep e s = scanMiss t := by
  simp [awaitSyncStep, h, hb]

theorem readHdrStep_byte {e : Bool} {s t : State} {b : Byte} (h : rxRead e s = some (.byte b, t)) :
    readHdrStep e s = takeHeaderByte b t := by
  simp [readHdrStep, h]

theorem readFixedStep_byte {e : Bool} {s t : State} {b : Byte} (h : rxRead e s = some (.byte b, t)) :
    readFixedStep e s = takeFixedByte b t := by
  simp [readFixedStep, h]

theorem readAckStep_byte {e : Bool} {s t : State} {b : Byte} (h : rxRead e s = some (.byte b, t)) :
    readAckStep e s = takeAckByte b t := by
  simp [readAckStep, h]

/-! ## The steps that do not read -/

theorem sendingStep_open {s : State} (h : s.closed = false) :
    sendingStep s = { s with rxq := [], txlog := s.txlog ++ s.frame, scanCnt := 0, st := .awaitSync } := by
  unfold sendingStep
  rw [rxDiscard_open h, txWrite_open _ (by simpa using h)]

theorem scanMiss_below {s : State} (h : s.scanCnt + 1 ≠ Config.scanLimit) :
    scanMiss s = { s with scanCnt := s.scanCnt + 1 } := by
  unfold scanMiss
  exact if_neg h

theorem scanMiss_limit {s : State} (h : s.scanCnt + 1 = Config.scanLimit) :
    scanMiss s = raiseFault .timeout subScan 0 true { s with scanCnt := s.scanCnt + 1 } := by
  unfold scanMiss
  exact if_pos h

theorem takeHeaderByte_below {s : State} (b : Byte) (h : s.hdrCnt + 1 ≠ Config.hdrLen) :
    takeHeaderByte b s = { s with hdrBuf := setHeaderByte s.hdrBuf s.hdrCnt b, hdrCnt := s.hdrCnt + 1 } := by
  unfold takeHeaderByte
  exact if_neg h

theorem takeFixedByte_below {s : State} (b : Byte) (h : s.rdCnt + 1 ≠ s.rdN) :
    takeFixedByte b s = { s with rdBuf := s.rdBuf ++ [b], rdCnt := s.rdCnt + 1 } := by
  unfold takeFixedByte
  exact if_neg h

theorem takeAckByte_below {s : State} (b : Byte) (h : s.ackCnt + 1 ≠ Config.ackLen) :
    takeAckByte b s = { s with ackBuf := setAckByte s.ackBuf s.ackCnt b, ackCnt := s.ackCnt + 1 } := by
  unfold takeAckByte
  exact if_neg h

end Sys2Proof.Machine
end

