-- ==== Sys2Proof/Laws/Inversion.lean ====
section
/-! SUPPORT. What an accept step and a step of the block can do, said once: a property of the next state follows from
the cases below, and no later proof unfolds the steps. -/

namespace Sys2Proof.Machine

/-! ## Accept steps -/

/-- The three ends of `beginExchange`. -/
theorem beginExchange_cases {P : State → Prop} (cmd : List Byte) (k : Cont) (s : State)
    (hempty : P (finish { Result.blank with status := .argEmpty, rxid := s.xid + 1 } { nextXid s with ctxV := false }))
    (hlong : ∀ op args, s.cfg.maxCmdLen.toNat < (op :: args).length →
      P (raiseFault .argTooLong 0 0 true { nextXid s with ctxV := true, ctxOp := op }))
    (hbegun : ∀ op args, (op :: args).length ≤ s.cfg.maxCmdLen.toNat → P (begun op args k s)) :
    P (beginExchange cmd k s) := by
  cases cmd with
  | nil => exact hempty
  | cons op args =>
    rcases Nat.lt_or_ge s.cfg.maxCmdLen.toNat (op :: args).length with h | h
    · rw [beginExchange_tooLong _ h]; exact hlong _ _ h
    · rw [beginExchange_accepted _ h]; exact hbegun _ _ h

/-- A wire command is begun like any other. -/
theorem serveCommand_cases {P : State → Prop} (shape : Shape) (cmd : List Byte) (s : State)
    (h : ∀ k, P (beginExchange cmd k s)) : P (serveCommand shape cmd s) := by
  cases shape with
  | none => exact h _
  | acknowledgement => exact h _
  | rawBytes n => exact h _
  | rawBytesScaled p u =>
    unfold serveCommand
    dsimp only
    split <;> exact h _

/-- Everything an instruction can do. -/
theorem exec_cases {P : State → Prop} {i : Instr} {s t : State} (h : exec i s = .next t)
    (hcrc16 : ∀ data, P (finishOk s.ctxV (.u16 (crc16 data)) (runCrc data s)))
    (hencodeLong : ∀ x cmd,
      P (finish { Result.blank with status := .argTooLong, rxid := x, ropV := true, rop := wireOpcode cmd } s))
    (hencode : ∀ x cmd,
      P (finish
        { Result.blank with
          rxid := x, ropV := !cmd.isEmpty, rop := wireOpcode cmd, value := .bytes (encodeFrame s.cfg x cmd) }
        (runCrc (x :: cmd) s)))
    (hvhdr : ∀ x op hdr,
      P (finish
        { Result.blank with
          status := if hdrMask s.cfg x op hdr = 0 then .ok else .headerMismatch
          mask := hdrMask s.cfg x op hdr
          rxid := x
          ropV := true
          rop := op } s))
    (hread : ∀ n, P (startRead n s))
    (hack : P (startAck s))
    (hbegin : ∀ cmd k, P (beginExchange cmd k s))
    (hillegal : P (raiseFault .illegalOp 0 0 s.ctxV s)) : P t := by
  cases i with
  | crc16 data => cases h; exact hcrc16 data
  | encode x cmd =>
    simp only [exec, execEncode] at h
    split at h <;> cases h
    · exact hencodeLong _ _
    · exact hencode _ _
  | vhdr => cases h; exact hvhdr _ _ _
  | send => cases h; exact hbegin _ _
  | read => cases h; exact hread _
  | ack => cases h; exact hack
  | xread => cases h; exact hbegin _ _
  | xack => cases h; exact hbegin _ _
  | illegal => cases h; exact hillegal
  | _ => cases h; exact serveCommand_cases _ _ _ (hbegin _)

/-! ## Steps of the exchange states -/

theorem awaitSyncStep_cases {P : State → Prop} (e : Bool) (s : State)
    (hio : s.closed = true → P (raiseFault .ioError 0 0 true s))
    (hsync : ∀ rest, s.closed = false → s.rxq = s.cfg.syncA :: rest →
      P { s with rxq := rest, hdrCnt := 0, st := .readHdr })
    (hother : ∀ b rest, s.closed = false → s.rxq = b :: rest → b ≠ s.cfg.syncA → P (scanMiss { s with rxq := rest }))
    (htimeout : s.closed = false → s.rxq = [] → e = true →
      P (if s.cfg.scanTimeoutCounts then scanMiss s else raiseFault .timeout subScan 0 true s))
    (hwait : s.closed = false → s.rxq = [] → e = false → P s) : P (awaitSyncStep e s) := by
  cases hc : s.closed with
  | true =>
    simp only [awaitSyncStep, rxRead_closed hc]
    exact hio hc
  | false =>
    cases hq : s.rxq with
    | nil =>
      cases e <;> simp only [awaitSyncStep, rxRead_empty hc hq]
      · exact hwait hc hq rfl
      · exact htimeout hc hq rfl
    | cons b rest =>
      by_cases hb : b = s.cfg.syncA
      · rw [awaitSyncStep_sync (rxRead_byte hc hq) hb]
        exact hsync rest hc (hb ▸ hq)
      · rw [awaitSyncStep_other (rxRead_byte hc hq) hb]
        exact hother b rest hc hq hb

theorem readHdrStep_cases {P : State → Prop} (e : Bool) (s : State)
    (hio : s.closed = true → P (raiseFault .ioError 0 0 true s))
    (hbyte : ∀ b rest, s.closed = false → s.rxq = b :: rest → P (takeHeaderByte b { s with rxq := rest }))
    (htimeout : s.closed = false → s.rxq = [] → e = true → P (raiseFault .timeout subHeader 0 true s))
    (hwait : s.closed = false → s.rxq = [] → e = false → P s) : P (readHdrStep e s) := by
  cases hc : s.closed with
  | true =>
    simp only [readHdrStep, rxRead_closed hc]
    exact hio hc
  | false =>
    cases hq : s.rxq with
    | nil =>
      cases e <;> simp only [readHdrStep, rxRead_empty hc hq]
      · exact hwait hc hq rfl
      · exact htimeout hc hq rfl
    | cons b rest =>
      rw [readHdrStep_byte (rxRead_byte hc hq)]
      exact hbyte b rest hc hq

theorem readFixedStep_cases {P : State → Prop} (e : Bool) (s : State)
    (hio : s.closed = true → P (raiseFault .ioError 0 0 s.ctxV s))
    (hbyte : ∀ b rest, s.closed = false → s.rxq = b :: rest → P (takeFixedByte b { s with rxq := rest }))
    (htimeout : s.closed = false → s.rxq = [] → e = true → P (raiseFault .timeout subFixed 0 s.ctxV s))
    (hwait : s.closed = false → s.rxq = [] → e = false → P s) : P (readFixedStep e s) := by
  cases hc : s.closed with
  | true =>
    simp only [readFixedStep, rxRead_closed hc]
    exact hio hc
  | false =>
    cases hq : s.rxq with
    | nil =>
      cases e <;> simp only [readFixedStep, rxRead_empty hc hq]
      · exact hwait hc hq rfl
      · exact htimeout hc hq rfl
    | cons b rest =>
      rw [readFixedStep_byte (rxRead_byte hc hq)]
      exact hbyte b rest hc hq

theorem readAckStep_cases {P : State → Prop} (e : Bool) (s : State)
    (hio : s.closed = true → P (raiseFault .ioError 0 0 s.ctxV s))
    (hbyte : ∀ b rest, s.closed = false → s.rxq = b :: rest → P (takeAckByte b { s with rxq := rest }))
    (htimeout : s.closed = false → s.rxq = [] → e = true → P (shortAck s))
    (hwait : s.closed = false → s.rxq = [] → e = false → P s) : P (readAckStep e s) := by
  cases hc : s.closed with
  | true =>
    simp only [readAckStep, rxRead_closed hc]
    exact hio hc
  | false =>
    cases hq : s.rxq with
    | nil =>
      cases e <;> simp only [readAckStep, rxRead_empty hc hq]
      · exact hwait hc hq rfl
      · exact htimeout hc hq rfl
    | cons b rest =>
      rw [readAckStep_byte (rxRead_byte hc hq)]
      exact hbyte b rest hc hq

theorem validatedStep_cases {P : State → Prop} (s : State)
    (hmismatch : hdrMask s.cfg s.xid s.ctxOp s.hdrBuf ≠ 0 →
      P (raiseFault .headerMismatch 0 (hdrMask s.cfg s.xid s.ctxOp s.hdrBuf) true s))
    (hdone : s.cont = .none → P (finishOk true .none s))
    (hread : ∀ n, s.cont = .read n → P (startRead n { s with cont := .none }))
    (hack : s.cont = .ack → P (startAck { s with cont := .none })) : P (validatedStep s) := by
  unfold validatedStep
  dsimp only
  split
  · split
    · next hk => exact hdone hk
    · next n hk => exact hread n hk
    · next hk => exact hack hk
  · next hm => exact hmismatch hm

/-! ## A step of the block -/

/-- Everything a step of the block can do. -/
theorem blockStep_cases {P : State → Prop} {e : Bool} {s t : State} (h : blockStep e s = .next t)
    (hidle : s.st = .idle → s.port = none → P s)
    (haccept : ∀ req, s.st = .idle → s.port = some req → exec (decode req) { s with port := none } = .next t → P t)
    (hsending : s.st = .sending → P (sendingStep s))
    (hscan : s.st = .awaitSync → P (awaitSyncStep e s))
    (hheader : s.st = .readHdr → P (readHdrStep e s))
    (hvalidated : s.st = .validated → P (validatedStep s))
    (hfixed : s.st = .readFixed → P (readFixedStep e s))
    (hack : s.st = .readAck → P (readAckStep e s)) : P t := by
  cases hst : s.st with
  | idle =>
    cases hp : s.port with
    | none => rw [blockStep_idle e hst hp] at h; cases h; exact hidle hst hp
    | some req => rw [blockStep_accepts e hst hp] at h; exact haccept req hst hp h
  | sending => rw [blockStep_sending e hst] at h; cases h; exact hsending hst
  | awaitSync => rw [blockStep_awaitSync e hst] at h; cases h; exact hscan hst
  | readHdr => rw [blockStep_readHdr e hst] at h; cases h; exact hheader hst
  | validated => rw [blockStep_validated e hst] at h; cases h; exact hvalidated hst
  | readFixed => rw [blockStep_readFixed e hst] at h; cases h; exact hfixed hst
  | readAck => rw [blockStep_readAck e hst] at h; cases h; exact hack hst
  | unused => simp [blockStep, hst] at h

end Sys2Proof.Machine
end

