-- ==== Sys2Proof/Laws/PerInstr.lean ====
section
/-! SUPPORT. Facts about every instruction as syntax, one lemma per constructor. -/

namespace Sys2Proof.Laws.EncodesAsItsExpansion

/-- R90, R195: an instruction is written with the bytes of the request it stands for. -/
def Statement (i : Instr) : Prop := Sys2Proof.encode i = Sys2Proof.encode i.expand

/-- The request of a shape is written as `encodeCarried` says. -/
theorem encode_carried (shape : Shape) (cmd : List Byte) :
    Sys2Proof.encode (carried shape cmd) = encodeCarried shape cmd := by
  cases shape with
  | none => rfl
  | acknowledgement => rfl
  | rawBytes n => rfl
  | rawBytesScaled p u =>
    by_cases h : p * u ≤ 65535 <;> simp [carried, encodeCarried, h, Sys2Proof.encode]

theorem crc16 (data : List Byte) : Statement (.crc16 data) := rfl
theorem encode (xid : Byte) (cmd : List Byte) : Statement (.encode xid cmd) := rfl
theorem vhdr (xid op : Byte) (hdr : HeaderBytes) : Statement (.vhdr xid op hdr) := rfl
theorem send (cmd : List Byte) : Statement (.send cmd) := rfl
theorem read (n : Word16) : Statement (.read n) := rfl
theorem ack : Statement .ack := rfl
theorem xread (n : Word16) (cmd : List Byte) : Statement (.xread n cmd) := rfl
theorem xack (cmd : List Byte) : Statement (.xack cmd) := rfl
theorem illegal (req : List Byte) : Statement (.illegal req) := rfl
theorem setup (sel cols rows : Byte) : Statement (.setup sel cols rows) := rfl
theorem stopStreaming : Statement .stopStreaming := rfl
theorem stopComms : Statement .stopComms := rfl
theorem devop10 (shape : Shape) (args : List Byte) : Statement (.devop10 shape args) := (encode_carried shape _).symm
theorem devop11 (shape : Shape) (args : List Byte) : Statement (.devop11 shape args) := (encode_carried shape _).symm
theorem devop12 (shape : Shape) (args : List Byte) : Statement (.devop12 shape args) := (encode_carried shape _).symm
theorem devop13 (shape : Shape) (args : List Byte) : Statement (.devop13 shape args) := (encode_carried shape _).symm
theorem devop14 (shape : Shape) (args : List Byte) : Statement (.devop14 shape args) := (encode_carried shape _).symm
theorem devop15 (shape : Shape) (args : List Byte) : Statement (.devop15 shape args) := (encode_carried shape _).symm
theorem devop16 (shape : Shape) (args : List Byte) : Statement (.devop16 shape args) := (encode_carried shape _).symm
theorem devop17 (shape : Shape) (args : List Byte) : Statement (.devop17 shape args) := (encode_carried shape _).symm
theorem devop20 (shape : Shape) (args : List Byte) : Statement (.devop20 shape args) := (encode_carried shape _).symm
theorem devop21 (shape : Shape) (args : List Byte) : Statement (.devop21 shape args) := (encode_carried shape _).symm
theorem devop22 (shape : Shape) (args : List Byte) : Statement (.devop22 shape args) := (encode_carried shape _).symm
theorem devop23 (shape : Shape) (args : List Byte) : Statement (.devop23 shape args) := (encode_carried shape _).symm
theorem devop24 (shape : Shape) (args : List Byte) : Statement (.devop24 shape args) := (encode_carried shape _).symm
theorem devop25 (shape : Shape) (args : List Byte) : Statement (.devop25 shape args) := (encode_carried shape _).symm
theorem devop26 (shape : Shape) (args : List Byte) : Statement (.devop26 shape args) := (encode_carried shape _).symm
theorem devop27 (shape : Shape) (args : List Byte) : Statement (.devop27 shape args) := (encode_carried shape _).symm
theorem devop28 (shape : Shape) (args : List Byte) : Statement (.devop28 shape args) := (encode_carried shape _).symm
theorem devop29 (shape : Shape) (args : List Byte) : Statement (.devop29 shape args) := (encode_carried shape _).symm
theorem devop30 (shape : Shape) (args : List Byte) : Statement (.devop30 shape args) := (encode_carried shape _).symm
theorem devop31 (shape : Shape) (args : List Byte) : Statement (.devop31 shape args) := (encode_carried shape _).symm
theorem devop32 (shape : Shape) (args : List Byte) : Statement (.devop32 shape args) := (encode_carried shape _).symm
theorem devop33 (shape : Shape) (args : List Byte) : Statement (.devop33 shape args) := (encode_carried shape _).symm
theorem devop34 (shape : Shape) (args : List Byte) : Statement (.devop34 shape args) := (encode_carried shape _).symm
theorem devop35 (shape : Shape) (args : List Byte) : Statement (.devop35 shape args) := (encode_carried shape _).symm
theorem devop40 (shape : Shape) (args : List Byte) : Statement (.devop40 shape args) := (encode_carried shape _).symm
theorem devop41 (shape : Shape) (args : List Byte) : Statement (.devop41 shape args) := (encode_carried shape _).symm
theorem devop42 (shape : Shape) (args : List Byte) : Statement (.devop42 shape args) := (encode_carried shape _).symm
theorem devop43 (shape : Shape) (args : List Byte) : Statement (.devop43 shape args) := (encode_carried shape _).symm
theorem devop44 (shape : Shape) (args : List Byte) : Statement (.devop44 shape args) := (encode_carried shape _).symm
theorem devop45 (shape : Shape) (args : List Byte) : Statement (.devop45 shape args) := (encode_carried shape _).symm
theorem devop46 (shape : Shape) (args : List Byte) : Statement (.devop46 shape args) := (encode_carried shape _).symm
theorem devop47 (shape : Shape) (args : List Byte) : Statement (.devop47 shape args) := (encode_carried shape _).symm
theorem devop48 (shape : Shape) (args : List Byte) : Statement (.devop48 shape args) := (encode_carried shape _).symm

end Sys2Proof.Laws.EncodesAsItsExpansion
end

