-- ==== Sys2Proof/Tests/Slice0.lean ====
section
/-! SUPPORT. The model's own tests. Expected values come from spec/95_test_vectors.md, from the tables of
spec/30_encoding.md, or from a rule by hand; each test names its source. The last section meets the hypotheses of
every statement that has some. -/

namespace Sys2Proof.Tests

open Sys2Proof Sys2Proof.Machine

/-! ## Helpers -/

/-- The state that an outcome goes to, if it goes to one. -/
def nextOf (o : Host.Outcome State Fault Refusal) : Option State :=
  match o with
  | .next s => some s
  | .fault _ => none
  | .refused _ => none

/-- The last response after an outcome, as bytes. -/
def reply (o : Host.Outcome State Fault Refusal) : Option (List Byte) := (nextOf o).map (fun s => responseBytes s.res)

/-- Reset, but in the state `st` of an exchange with id 1 and opcode 0x00. -/
def during (st : ExchangeState) : State := { State.reset with st := st, xid := 1, ctxV := true }

/-! ## WellFormed refuses each ill-formed term -/

/-- R85: the `L:n16` field of CRC16. -/
theorem test_wf_crc16 : (Instr.crc16 (List.replicate 65536 0)).wellFormed = false := by
  rw [Instr.wellFormed, fitsN16, List.length_replicate]; decide
/-- R85: the `L:u8` field of ENCODE. -/
theorem test_wf_encode : (Instr.encode 1 (List.replicate 256 0)).wellFormed = false := by
  rw [Instr.wellFormed, fitsU8, List.length_replicate]; decide
/-- R85: the `L:u8` field of SEND. -/
theorem test_wf_send : (Instr.send (List.replicate 256 0)).wellFormed = false := by
  rw [Instr.wellFormed, fitsU8, List.length_replicate]; decide
/-- R85: the `L:u8` field of XREAD. -/
theorem test_wf_xread : (Instr.xread 1 (List.replicate 256 0)).wellFormed = false := by
  rw [Instr.wellFormed, fitsU8, List.length_replicate]; decide
/-- R85: the `L:u8` field of XACK. -/
theorem test_wf_xack : (Instr.xack (List.replicate 256 0)).wellFormed = false := by
  rw [Instr.wellFormed, fitsU8, List.length_replicate]; decide
/-- R87: a request that is legal is no illegal one. -/
theorem test_wf_illegal : (Instr.illegal [0x06]).wellFormed = false := by decide
/-- R85: a wire command with 255 argument bytes does not fit a request. -/
theorem test_wf_devop : (Instr.devop10 .none (List.replicate 255 0)).wellFormed = false := by
  rw [Instr.wellFormed, argsFit, List.length_replicate]; decide

/-! ## Decoding (spec/95_test_vectors.md §2.7, spec/30_encoding.md R85) -/

theorem test_decode_crc16 : decode [0b00000001, 0b00000010, 0b00000000, 0x31, 0x32] = .crc16 [0x31, 0x32] := by decide
theorem test_decode_crc16_empty : decode [0x01, 0x00, 0x00] = .crc16 [] := by decide
theorem test_decode_encode :
    decode [0b00000010, 0b00000001, 0b00000100, 0x00, 0x03, 0x02, 0x03] = .encode 1 [0, 3, 2, 3] := by decide
theorem test_decode_vhdr :
    decode [0b00000011, 0x01, 0x00, 0xEF, 0x01, 0x00, 0xCC, 0xEF] = .vhdr 1 0 ⟨0xEF, 1, 0, 0xCC, 0xEF⟩ := by decide
theorem test_decode_send : decode [0b00000100, 0b00000001, 0b00000001] = .send [1] := by decide
theorem test_decode_send_empty : decode [0x04, 0x00] = .send [] := by decide
theorem test_decode_read : decode [0b00000101, 0b00000100, 0b00000001] = .read 0x0104 := by decide
theorem test_decode_ack : decode [0b00000110] = .ack := by decide
theorem test_decode_xread :
    decode [0b00000111, 0x04, 0x00, 0x05, 0x10, 0x44, 0x00, 0x12, 0x04] = .xread 4 [0x10, 0x44, 0, 0x12, 4] := by decide
theorem test_decode_xack : decode [0b00001000, 0b00000001, 0b00100000] = .xack [0x20] := by decide
/-- R87: reserved OPCs, a truncated and a trailing request, and no byte at all. -/
theorem test_decode_illegal :
    decode [0x00] = .illegal [0x00] ∧ decode [0x09, 1] = .illegal [0x09, 1] ∧ decode [0xFF] = .illegal [0xFF]
      ∧ decode [0x04, 0x03, 0x01] = .illegal [0x04, 0x03, 0x01] ∧ decode [0x06, 0x00] = .illegal [0x06, 0x00]
      ∧ decode [] = .illegal [] := by decide

/-- R191, R192, R193. -/
theorem test_command_setup_and_stops :
    decodeCommand .none [0x00, 0x03, 0x02, 0x03] = .setup 3 2 3 ∧ decodeCommand .none [0x01] = .stopStreaming
      ∧ decodeCommand .none [0x02] = .stopComms := by decide
/-- R194: 0x10 to 0x17. -/
theorem test_command_devop_10_17 :
    [0x10, 0x11, 0x12, 0x13, 0x14, 0x15, 0x16, 0x17].map (fun b => decodeCommand .acknowledgement [b, 0x44])
      = [Instr.devop10, Instr.devop11, Instr.devop12, Instr.devop13, Instr.devop14, Instr.devop15, Instr.devop16,
          Instr.devop17].map (fun f => f .acknowledgement [0x44]) := by decide
/-- R194: 0x20 to 0x29. -/
theorem test_command_devop_20_29 :
    [0x20, 0x21, 0x22, 0x23, 0x24, 0x25, 0x26, 0x27, 0x28, 0x29].map (fun b => decodeCommand .none [b, 0x44])
      = [Instr.devop20, Instr.devop21, Instr.devop22, Instr.devop23, Instr.devop24, Instr.devop25, Instr.devop26,
          Instr.devop27, Instr.devop28, Instr.devop29].map (fun f => f .none [0x44]) := by decide
/-- R194: 0x30 to 0x35. -/
theorem test_command_devop_30_35 :
    [0x30, 0x31, 0x32, 0x33, 0x34, 0x35].map (fun b => decodeCommand (.rawBytes 4) [b, 0x44])
      = [Instr.devop30, Instr.devop31, Instr.devop32, Instr.devop33, Instr.devop34, Instr.devop35].map
          (fun f => f (.rawBytes 4) [0x44]) := by decide
/-- R194: 0x40 to 0x48. -/
theorem test_command_devop_40_48 :
    [0x40, 0x41, 0x42, 0x43, 0x44, 0x45, 0x46, 0x47, 0x48].map (fun b => decodeCommand (.rawBytesScaled 2 3) [b])
      = [Instr.devop40, Instr.devop41, Instr.devop42, Instr.devop43, Instr.devop44, Instr.devop45, Instr.devop46,
          Instr.devop47, Instr.devop48].map (fun f => f (.rawBytesScaled 2 3) []) := by decide
/-- R190, I24: an opcode outside the ranges is carried like any other. -/
theorem test_command_other : decodeCommand .acknowledgement [0x18, 1] = .xack [0x18, 1] := by decide
/-- R90, R195: the requests that carry a SETUP and the shapes of a device opcode (program P1, §2.7). -/
theorem test_encode_commands :
    encode (.setup 3 2 3) = [0x04, 0x04, 0x00, 0x03, 0x02, 0x03] ∧ encode .stopStreaming = [0x04, 0x01, 0x01]
      ∧ encode .stopComms = [0x04, 0x01, 0x02] ∧ encode (.devop20 .acknowledgement []) = [0x08, 0x01, 0x20]
      ∧ encode (.devop10 (.rawBytesScaled 2 2) [0x44, 0x00, 0x12, 0x04])
        = [0x07, 0x04, 0x00, 0x05, 0x10, 0x44, 0x00, 0x12, 0x04] := by decide

/-- Rows of spec/opcode_table.json, read as log entry 8 says. -/
theorem test_table_words :
    decodeTableWord 8 0x01 = some (.crc16 []) ∧ decodeTableWord 8 0x06 = some .ack
      ∧ decodeTableWord 24 0x010405 = some (.read 0x0104) ∧ decodeTableWord 8 0x09 = some (.illegal [0x09])
      ∧ decodeTableWord 32 0x03020300 = some (.setup 3 2 3) ∧ decodeTableWord 8 0x48 = some (.devop48 .none []) := by
  decide
/-- The word of READ 0x0104 at the port is accepted by the next step (log entry 8). -/
theorem test_withFetchWord :
    (nextOf (step (State.reset.withFetchWord 24 0x010405))).map (fun s => (s.st, s.rdN)) = some (.readFixed, 0x0104) := by
  decide

/-! ## One step each (spec/95_test_vectors.md) -/

/-- §2.7: CRC16 of "123456789" from reset answers `00 00 00 00 B1 29`. -/
theorem test_crc16_check :
    reply (exec (.crc16 [0x31, 0x32, 0x33, 0x34, 0x35, 0x36, 0x37, 0x38, 0x39]) State.reset)
      = some [0x00, 0x00, 0x00, 0x00, 0xB1, 0x29] := by decide +kernel
/-- §2.1: order matters, and a zero result is possible. -/
theorem test_crc16_values :
    crc16 [] = 0xFFFF ∧ crc16 [0x00] = 0xE1F0 ∧ crc16 [0x80] = 0x7078 ∧ crc16 [0x00, 0x01] = 0x0D2E
      ∧ crc16 [0x01, 0x00] = 0x2E3E ∧ crc16 [0xFF, 0xFF] = 0x0000 := by decide +kernel
/-- §2.2: sync values inside the payload are copied. -/
theorem test_encode_unescaped :
    (nextOf (exec (.encode 0x7F [0xCC, 0xEF]) State.reset)).map (fun s => (s.res.value, s.res.rxid, s.xid))
      = some (.bytes [0xCC, 0xEF, 0x03, 0x7F, 0xCC, 0xEF, 0x5D, 0x67, 0xCC, 0xEF], 0x7F, 0x00) := by decide +kernel
/-- §2.2: 254 command bytes are too long. -/
theorem test_encode_too_long :
    reply (exec (.encode 0x10 (List.replicate 254 0x10)) State.reset) = some [0x41, 0x00, 0x10, 0x10] := by decide +kernel
/-- §2.3. -/
theorem test_vhdr_ok :
    reply (exec (.vhdr 0x01 0x00 ⟨0xEF, 0x01, 0x00, 0xCC, 0xEF⟩) State.reset) = some [0x40, 0x00, 0x01, 0x00] := by
  decide
/-- §2.3: every mask of the table. -/
theorem test_vhdr_masks :
    ([⟨0xEE, 1, 0, 0xCC, 0xEF⟩, ⟨0xEF, 0, 0, 0xCC, 0xEF⟩, ⟨0xEF, 1, 1, 0xCC, 0xEF⟩, ⟨0xEF, 1, 0, 0xCD, 0xEF⟩,
        ⟨0xEF, 1, 0, 0xCC, 0xEE⟩, ⟨0xEF, 2, 0, 0xCC, 0xEE⟩, ⟨0xFF, 0xFF, 0xFF, 0xFF, 0xFF⟩, ⟨0, 0, 0, 0, 0⟩,
        ⟨0xCC, 1, 0, 0xEF, 0xCC⟩] : List HeaderBytes).map (hdrMask Params.default 1 0)
      = [0x01, 0x02, 0x04, 0x08, 0x10, 0x12, 0x1F, 0x1B, 0x19] := by decide
/-- R141: the frame of the setup exchange from reset, with id 1. -/
theorem test_send_frame :
    (nextOf (exec (.send [0x00, 0x03, 0x02, 0x03]) State.reset)).map (fun s => (s.st, s.xid, s.frame))
      = some (.sending, 1, [0xCC, 0xEF, 0x05, 0x01, 0x00, 0x03, 0x02, 0x03, 0x0C, 0xB4, 0xCC, 0xEF]) := by decide +kernel
/-- P7: an empty command consumes an id and no byte. -/
theorem test_send_empty :
    (nextOf (exec (.send []) { State.reset with xid := 0x30, rxq := [0x99] })).map
        (fun s => (responseBytes s.res, s.xid, s.rxq, s.txlog))
      = some ([0x02, 0x00, 0x31, 0x00], 0x31, [0x99], []) := by decide
/-- §2.5: `READ 0` takes nothing. -/
theorem test_read_zero :
    (nextOf (exec (.read 0) { State.reset with rxq := [0x11] })).map (fun s => (s.res.value, s.rxq))
      = some (.bytes [], [0x11]) := by decide
/-- R170. -/
theorem test_read_start :
    (nextOf (exec (.read 4) { State.reset with rdCnt := 3, rdBuf := [9] })).map (fun s => (s.st, s.rdN, s.rdCnt, s.rdBuf))
      = some (.readFixed, 4, 0, []) := by decide
/-- R172. -/
theorem test_ack_start :
    (nextOf (exec .ack { State.reset with ackCnt := 4 })).map (fun s => (s.st, s.ackCnt)) = some (.readAck, 0) := by
  decide
/-- P2: the id wraps, and the continuation keeps n. -/
theorem test_xread_wraps :
    (nextOf (exec (.xread 4 [0x10]) { State.reset with xid := 0xFF })).map (fun s => (s.xid, s.ctxOp, s.cont))
      = some (0x00, 0x10, .read 4) := by decide +kernel
/-- P3, first request: the frame. -/
theorem test_xack_frame :
    (nextOf (exec (.xack [0x20, 0x44, 0x10, 0x00, 0x01, 0xAB]) { State.reset with xid := 5 })).map
        (fun s => (s.cont, s.frame))
      = some (.ack, [0xCC, 0xEF, 0x07, 0x06, 0x20, 0x44, 0x10, 0x00, 0x01, 0xAB, 0x9A, 0xD1, 0xCC, 0xEF]) := by decide +kernel
/-- R217: ILLEGAL_OP in the current context. -/
theorem test_illegal_context :
    reply (exec (.illegal [0xFF]) { State.reset with xid := 8, ctxV := true, ctxOp := 0x30 })
      = some [0x47, 0x00, 0x08, 0x30] := by decide
/-- P1: the frames of SETUP and of the two stop commands. -/
theorem test_setup_frame :
    (nextOf (exec (.setup 3 2 3) State.reset)).map (·.frame)
      = some [0xCC, 0xEF, 0x05, 0x01, 0x00, 0x03, 0x02, 0x03, 0x0C, 0xB4, 0xCC, 0xEF] := by decide +kernel
theorem test_stopStreaming_frame :
    (nextOf (exec .stopStreaming { State.reset with xid := 1 })).map (·.frame)
      = some [0xCC, 0xEF, 0x02, 0x02, 0x01, 0x4C, 0x6B, 0xCC, 0xEF] := by decide +kernel
theorem test_stopComms_frame :
    (nextOf (exec .stopComms { State.reset with xid := 2 })).map (·.frame)
      = some [0xCC, 0xEF, 0x02, 0x03, 0x02, 0x1E, 0x68, 0xCC, 0xEF] := by decide +kernel
/-- §2.2: the frame of a device opcode, with a scaled shape. -/
theorem test_devop10_frame :
    (nextOf (exec (.devop10 (.rawBytesScaled 2 2) [0x44, 0x00, 0x12, 0x04]) { State.reset with xid := 4 })).map
        (fun s => (s.cont, s.frame))
      = some (.read 4, [0xCC, 0xEF, 0x06, 0x05, 0x10, 0x44, 0x00, 0x12, 0x04, 0xB3, 0xC8, 0xCC, 0xEF]) := by decide +kernel

/-- R54, R55: the discard comes before the write. -/
theorem test_sending_step :
    (nextOf (step { during .sending with frame := [1, 2], rxq := [0xAA, 0xCC], txlog := [9] })).map
        (fun s => (s.st, s.rxq, s.txlog))
      = some (.awaitSync, [], [9, 1, 2]) := by decide
/-- §2.4: the 100th miss ends the scan with TIMEOUT(SCAN), and the 99th does not. -/
theorem test_scan_bound :
    (nextOf (step { during .awaitSync with scanCnt := 99, rxq := [0x00, 0xCC] })).map
        (fun s => (s.st, responseBytes s.res, s.rxq)) = some (.idle, [0x43, 0x00, 0x01, 0x00], [0xCC])
      ∧ (nextOf (step { during .awaitSync with scanCnt := 98, rxq := [0x00] })).map (fun s => (s.st, s.scanCnt))
        = some (.awaitSync, 99) := by decide
/-- §2.4: a silent attempt with `SCAN_TIMEOUT_COUNTS` false ends the scan. -/
theorem test_scan_timeout_ends :
    (nextOf (step { during .awaitSync with cfg := { Params.default with scanTimeoutCounts := false } })).map
        (fun s => (s.st, responseBytes s.res)) = some (.idle, [0x43, 0x00, 0x01, 0x00]) := by decide
/-- P3, third request: mask 0x12, id 8, opcode 0x30. -/
theorem test_validated_mismatch :
    reply (step { during .validated with xid := 8, ctxOp := 0x30, hdrBuf := ⟨0xEF, 7, 0x30, 0xCC, 0xEE⟩, hdrCnt := 5 })
      = some [0x44, 0x12, 0x08, 0x30] := by decide
/-- §2.7: XREAD OK answers `40 00 05 10 04 00 01 02 03 04`, on its last byte. -/
theorem test_read_fixed_last :
    reply (step { during .readFixed with
        xid := 5, ctxOp := 0x10, rdN := 4, rdCnt := 3, rdBuf := [1, 2, 3], rxq := [4, 0x5A] })
      = some [0x40, 0x00, 0x05, 0x10, 0x04, 0x00, 0x01, 0x02, 0x03, 0x04] := by decide
/-- §2.6: `FF FF FF FE` fails at its fourth byte. -/
theorem test_ack_last :
    reply (step { during .readAck with ackBuf := ⟨0xFF, 0xFF, 0xFF, 0⟩, ackCnt := 3, rxq := [0xFE] })
      = some [0x45, 0x00, 0x01, 0x00] := by decide
/-- §2.6: a short acknowledgement, under both kinds. -/
theorem test_ack_short :
    reply (step (during .readAck)) = some [0x73, 0x00, 0x01, 0x00]
      ∧ reply (step { during .readAck with cfg := { Params.default with shortAckKind := .ackInvalid } })
        = some [0x45, 0x00, 0x01, 0x00] := by decide
/-- R241: the reset line in the middle of a read gives no response and keeps the streams. -/
theorem test_reset_line :
    (nextOf (step { during .readFixed with rxq := [1], txlog := [2], sched := [.reset] })).map
        (fun s => (s.st, s.xid, s.rxq, s.txlog, s.res.valid))
      = some (.idle, 0, [1], [2], false) := by decide

/-! ## The hypotheses of the statements can be met

Each theorem shows, at a boundary where there is one, values that meet all hypotheses of one statement together. -/

/-- A scanning state with 99 noise bytes before its SYNC_A. -/
def scanning : State := { during .awaitSync with rxq := List.replicate 99 0x00 ++ 0xCC :: [0xEF, 0x01] }

/-- 99 bytes of noise, the most that a scan passes. -/
def noise : List Byte := List.replicate 99 0x00

/-- What arrives for the exchange with id 1 and opcode 0x10: noise, the header, and then `tail`. -/
def answer (tail : List Byte) : List Byte := noise ++ [0xCC, 0xEF, 0x01, 0x10, 0xCC, 0xEF] ++ tail

/-- An idle state that holds the request `req`, with `rxq` arrived. -/
def holding (req rxq : List Byte) : State := { State.reset with port := some req, rxq := rxq }

/-- An idle state that holds `req`, whose bridge answers with `inbound` after the write. -/
def answered (req inbound : List Byte) : State :=
  { holding req [] with sched := .block false :: .block false :: inbound.map .arrive }

theorem witness_EncodedFramesAreWellFormed : ([] : List Byte).length ≤ 254 ∧ (List.replicate 254 (0 : Byte)).length ≤ 254 := by
  simp only [List.length_replicate]; decide
theorem witness_FrameDeterminesIdAndCommand :
    encodeFrame Params.default 1 [0xCC] = encodeFrame Params.default 1 [0xCC] := rfl
theorem witness_EncodeCompletes : (List.replicate 253 (0 : Byte)).length ≤ State.reset.cfg.maxCmdLen.toNat := by
  rw [List.length_replicate]; decide
theorem witness_EncodeTooLongFaults :
    State.reset.cfg.maxCmdLen.toNat < ((0x10 : Byte) :: List.replicate 253 0).length := by
  rw [List.length_cons, List.length_replicate]; decide
theorem witness_ExchangeAcceptCompletes :
    ((0x10 : Byte) :: List.replicate 252 0).length ≤ State.reset.cfg.maxCmdLen.toNat := by
  rw [List.length_cons, List.length_replicate]; decide
theorem witness_LongCommandFaultsBeforeIO :
    State.reset.cfg.maxCmdLen.toNat < ((0x10 : Byte) :: List.replicate 253 0).length := by
  rw [List.length_cons, List.length_replicate]; decide
theorem witness_OnlyExchangesAdvanceXid :
    (∃ t, exec (.send [0x01]) { State.reset with xid := 0xFF } = .next t) ∧ ∃ t, exec .ack State.reset = .next t :=
  ⟨⟨_, rfl⟩, ⟨_, rfl⟩⟩
theorem witness_XidCountsAcceptedExchanges :
    noReset (holding [0x04, 0x00] []) = true ∧ ∃ t, runSteps 1 (holding [0x04, 0x00] []) = .next t :=
  ⟨rfl, ⟨_, rfl⟩⟩
theorem witness_SendingStepDiscardsThenWrites :
    ((during .sending).st = .sending ∧ (during .sending).closed = false)
      ∧ ({ during .sending with closed := true }.st = .sending ∧ { during .sending with closed := true }.closed = true) := by
  decide
theorem witness_ScanStepByOutcome_closed :
    { during .awaitSync with closed := true }.st = .awaitSync ∧ { during .awaitSync with closed := true }.closed = true := by
  decide
theorem witness_ScanStepByOutcome_sync :
    let s := { during .awaitSync with rxq := [0xCC, 1] }
    s.st = .awaitSync ∧ s.closed = false ∧ s.rxq = s.cfg.syncA :: [1] := by decide
theorem witness_ScanStepByOutcome_miss :
    let s := { during .awaitSync with scanCnt := 99, rxq := [0xCD, 1] }
    s.st = .awaitSync ∧ s.closed = false ∧ s.rxq = 0xCD :: [1] ∧ 0xCD ≠ s.cfg.syncA ∧ s.scanCnt + 1 = 100 := by decide
theorem witness_ScanStepByOutcome_silent :
    let s := during .awaitSync
    s.st = .awaitSync ∧ s.closed = false ∧ s.rxq = [] := by decide
theorem witness_ScanBound_below :
    scanning.st = .awaitSync ∧ scanning.scanCnt = 0 ∧ scanning.closed = false ∧ scanning.sched = []
      ∧ (∀ b ∈ List.replicate 99 (0x00 : Byte), b ≠ scanning.cfg.syncA) ∧ (List.replicate 99 (0x00 : Byte)).length < 100
      ∧ scanning.rxq = List.replicate 99 0x00 ++ scanning.cfg.syncA :: [0xEF, 0x01] := by decide +kernel
theorem witness_ScanBound_at :
    let s := { during .awaitSync with rxq := List.replicate 100 0x00 ++ [0xCC] }
    s.st = .awaitSync ∧ s.scanCnt = 0 ∧ s.closed = false ∧ s.sched = []
      ∧ (∀ b ∈ List.replicate 100 (0x00 : Byte), b ≠ s.cfg.syncA) ∧ (List.replicate 100 (0x00 : Byte)).length = 100
      ∧ s.rxq = List.replicate 100 0x00 ++ [0xCC] := by decide +kernel
theorem witness_ScanBound_silent :
    let s := during .awaitSync
    s.st = .awaitSync ∧ s.scanCnt = 0 ∧ s.closed = false ∧ s.sched = [] ∧ (∀ b ∈ ([] : List Byte), b ≠ s.cfg.syncA)
      ∧ s.rxq = [] ∧ s.cfg.scanTimeoutCounts = true := by decide
theorem witness_HeaderStepByOutcome_last :
    let s := { during .readHdr with hdrCnt := 4, rxq := [0xEF] }
    s.st = .readHdr ∧ s.hdrCnt.toNat < 5 ∧ s.closed = false ∧ s.rxq = 0xEF :: [] := by decide
theorem witness_HeaderStepByOutcome_silent :
    let s := during .readHdr
    s.st = .readHdr ∧ s.hdrCnt.toNat < 5 ∧ s.closed = false ∧ s.rxq = [] := by decide
theorem witness_HeaderStepByOutcome_closed :
    let s := { during .readHdr with closed := true }
    s.st = .readHdr ∧ s.hdrCnt.toNat < 5 ∧ s.closed = true := by decide
theorem witness_ShortHeaderTimesOut :
    let s := { during .readHdr with rxq := [0xEF, 0x01, 0x00, 0xCC] }
    s.st = .readHdr ∧ s.hdrCnt = 0 ∧ s.closed = false ∧ s.sched = [] ∧ s.rxq.length < 5 := by decide
theorem witness_ValidatedStepChecksAndContinues_mismatch :
    let s := during .validated
    s.st = .validated ∧ hdrMask s.cfg s.xid s.ctxOp s.hdrBuf ≠ 0 := by decide
theorem witness_ValidatedStepChecksAndContinues_ok :
    ∀ c ∈ [Cont.none, Cont.read 0, Cont.read 65535, Cont.ack],
      let s := { during .validated with hdrBuf := ⟨0xEF, 0x01, 0x00, 0xCC, 0xEF⟩, cont := c }
      s.st = .validated ∧ hdrMask s.cfg s.xid s.ctxOp s.hdrBuf = 0 ∧ s.cont = c := by decide
/-- Program P5. -/
theorem witness_FalseLockEndsInMismatch :
    let s := { during .awaitSync with
      xid := 0x22, ctxOp := 0x02, rxq := [0xCC, 0x11, 0x22, 0x33, 0x44, 0x55, 0xCC, 0xEF, 0x22, 0x02, 0xCC, 0xEF] }
    s.st = .awaitSync ∧ s.closed = false ∧ s.sched = []
      ∧ s.rxq = [s.cfg.syncA, 0x11, 0x22, 0x33, 0x44, 0x55] ++ [0xCC, 0xEF, 0x22, 0x02, 0xCC, 0xEF]
      ∧ hdrMask s.cfg s.xid s.ctxOp ⟨0x11, 0x22, 0x33, 0x44, 0x55⟩ ≠ 0 := by decide
theorem witness_SendRoundTrip :
    let s := answered [0x04, 0x02, 0x10, 0x44] (answer [0x5A])
    s.st = .idle ∧ s.closed = false ∧ s.port = some (encode (.send [0x10, 0x44]))
      ∧ [(0x10 : Byte), 0x44].length ≤ s.cfg.maxCmdLen.toNat ∧ noise.length < 100 ∧ (∀ b ∈ noise, b ≠ s.cfg.syncA)
      ∧ s.sched = .block false :: .block false ::
        (noise ++ [s.cfg.syncA, s.cfg.syncB, s.xid + 1, 0x10, s.cfg.syncA, s.cfg.syncB] ++ [0x5A]).map .arrive := by
  decide +kernel
theorem witness_XreadRoundTrip_scan :
    ∀ x ∈ [((0 : Word16), ([] : List Byte)), (2, [0xCC, 0xFF])],
      let s := { during .awaitSync with cont := .read x.1, ctxOp := 0x10, rxq := answer (x.2 ++ [0x5A]) }
      s.st = .awaitSync ∧ s.scanCnt = 0 ∧ s.closed = false ∧ s.sched = [] ∧ s.cont = .read x.1 ∧ s.ctxV = true
        ∧ noise.length < 100 ∧ (∀ b ∈ noise, b ≠ s.cfg.syncA) ∧ x.2.length = x.1.toNat
        ∧ s.rxq = noise ++ [s.cfg.syncA, s.cfg.syncB, s.xid, s.ctxOp, s.cfg.syncA, s.cfg.syncB] ++ x.2 ++ [0x5A] := by
  decide +kernel
theorem witness_XreadRoundTrip_request :
    ∀ x ∈ [((0 : Word16), ([] : List Byte)), (2, [0xCC, 0xFF])],
      let s := answered [0x07, x.1.setWidth 8, 0x00, 0x01, 0x10] (answer (x.2 ++ [0x5A]))
      s.st = .idle ∧ s.closed = false ∧ s.port = some (encode (.xread x.1 [0x10]))
        ∧ [(0x10 : Byte)].length ≤ s.cfg.maxCmdLen.toNat ∧ noise.length < 100 ∧ (∀ b ∈ noise, b ≠ s.cfg.syncA)
        ∧ x.2.length = x.1.toNat
        ∧ s.sched = .block false :: .block false ::
          (noise ++ [s.cfg.syncA, s.cfg.syncB, s.xid + 1, 0x10, s.cfg.syncA, s.cfg.syncB] ++ x.2 ++ [0x5A]).map
            .arrive := by
  decide +kernel
theorem witness_XackRoundTrip_scan :
    let s := { during .awaitSync with cont := .ack, ctxOp := 0x10, rxq := answer [0xFF, 0xFF, 0xFF, 0xFE, 0x5A] }
    s.st = .awaitSync ∧ s.scanCnt = 0 ∧ s.closed = false ∧ s.sched = [] ∧ s.cont = .ack ∧ s.ctxV = true
      ∧ noise.length < 100 ∧ (∀ b ∈ noise, b ≠ s.cfg.syncA)
      ∧ s.rxq = noise ++ [s.cfg.syncA, s.cfg.syncB, s.xid, s.ctxOp, s.cfg.syncA, s.cfg.syncB]
          ++ [0xFF, 0xFF, 0xFF, 0xFE] ++ [0x5A] := by decide +kernel
theorem witness_XackRoundTrip_request :
    let s := answered [0x08, 0x01, 0x10] (answer [0xFF, 0xFF, 0xFF, 0xFF])
    s.st = .idle ∧ s.closed = false ∧ s.port = some (encode (.xack [0x10]))
      ∧ [(0x10 : Byte)].length ≤ s.cfg.maxCmdLen.toNat ∧ noise.length < 100 ∧ (∀ b ∈ noise, b ≠ s.cfg.syncA)
      ∧ s.sched = .block false :: .block false ::
        (noise ++ [s.cfg.syncA, s.cfg.syncB, s.xid + 1, 0x10, s.cfg.syncA, s.cfg.syncB]
          ++ [0xFF, 0xFF, 0xFF, 0xFF] ++ []).map .arrive := by decide +kernel
theorem witness_ReadCompletes : (1 : Word16) ≠ 0 ∧ (65535 : Word16) ≠ 0 := by decide
theorem witness_ReadReturnsTheNextBytes :
    let s := holding [0x05, 0x04, 0x00] [0x11, 0x22, 0x33, 0x44, 0x55]
    s.st = .idle ∧ s.port = some (encode (.read 4)) ∧ s.closed = false ∧ s.sched = [] ∧ 0 < (4 : Word16).toNat
      ∧ [(0x11 : Byte), 0x22, 0x33, 0x44].length = (4 : Word16).toNat
      ∧ s.rxq = [0x11, 0x22, 0x33, 0x44] ++ [0x55] := by decide
theorem witness_ShortReadTimesOut :
    let s := holding [0x05, 0x04, 0x00] [0x11, 0x22, 0x33]
    s.st = .idle ∧ s.port = some (encode (.read 4)) ∧ s.closed = false ∧ s.sched = []
      ∧ s.rxq.length < (4 : Word16).toNat := by decide
theorem witness_AckChecksFourBytes :
    let s := holding [0x06] [0xFF, 0x00, 0xFF, 0xFF]
    s.st = .idle ∧ s.port = some (encode .ack) ∧ s.closed = false ∧ s.sched = []
      ∧ s.rxq = [0xFF, 0x00, 0xFF, 0xFF] ++ [] := by decide
theorem witness_ShortAckFaultKind :
    ∀ k ∈ [ShortAckKind.timeout, .ackInvalid],
      let s := { during .readAck with cfg := { Params.default with shortAckKind := k }, ackCnt := 3 }
      s.st = .readAck ∧ s.closed = false ∧ s.rxq = [] ∧ s.cfg.shortAckKind = k := by decide
/-- A fixed read at the last byte of the longest read, and below it. -/
theorem witness_FixedAndAckStepsByOutcome_fixed :
    let s := { during .readFixed with rdN := 65535, rdCnt := 65534, rxq := [0xCC] }
    let u := { during .readFixed with rdN := 65535, rdCnt := 65533, rxq := [0xCC] }
    (s.st = .readFixed ∧ s.closed = false ∧ s.rxq = 0xCC :: [] ∧ s.rdCnt + 1 = s.rdN)
      ∧ (u.st = .readFixed ∧ u.closed = false ∧ u.rxq = 0xCC :: [] ∧ u.rdCnt + 1 ≠ u.rdN) := by decide
/-- An acknowledgement read at its fourth byte, and below it. -/
theorem witness_FixedAndAckStepsByOutcome_ack :
    let s := { during .readAck with ackCnt := 3, rxq := [0xFF] }
    let u := { during .readAck with ackCnt := 2, rxq := [0xFF] }
    (s.st = .readAck ∧ s.ackCnt.toNat < 4 ∧ s.closed = false ∧ s.rxq = 0xFF :: [] ∧ s.ackCnt = 3)
      ∧ (u.st = .readAck ∧ u.ackCnt.toNat < 4 ∧ u.closed = false ∧ u.rxq = 0xFF :: [] ∧ u.ackCnt ≠ 3) := by decide
/-- Both reads with nothing arrived, and with the stream closed. -/
theorem witness_FixedAndAckStepsByOutcome_silent_closed :
    (during .readFixed).st = .readFixed ∧ (during .readFixed).closed = false ∧ (during .readFixed).rxq = []
      ∧ (during .readAck).st = .readAck ∧ (during .readAck).ackCnt.toNat < 4 ∧ (during .readAck).closed = false
      ∧ (during .readAck).rxq = [] ∧ { during .readFixed with closed := true }.closed = true
      ∧ { during .readAck with closed := true }.closed = true := by decide
theorem witness_SetupAndStopCommandsComplete :
    4 ≤ ({ Params.default with maxCmdLen := 4 } : Params).maxCmdLen.toNat
      ∧ 1 ≤ ({ Params.default with maxCmdLen := 1 } : Params).maxCmdLen.toNat := by decide
theorem witness_DeviceOpcodesComplete :
    ((0x48 : Byte) :: List.replicate 252 0).length ≤ State.reset.cfg.maxCmdLen.toNat := by
  rw [List.length_cons, List.length_replicate]; decide
theorem witness_DecodeOfEncode :
    (Instr.send (List.replicate 255 0)).wellFormed = true ∧ (Instr.illegal [0x04, 0x03, 0x01]).wellFormed = true := by
  rw [Instr.wellFormed, fitsU8, List.length_replicate]; decide
theorem witness_CommandBytesRoundTrip :
    (Instr.devop10 .acknowledgement [0x44]).command? = some (.acknowledgement, [0x10, 0x44]) := by decide
theorem witness_TableWordIsFetchedAndRun : 24 ≤ 2040 ∧ decodeTableWord 24 0x010405 = some (.read 0x0104) := by decide
theorem witness_StepRunsTheDecodedRequest :
    let s := holding [0x06] []
    let t := { holding [0x06] [] with sched := [.block false] }
    (s.st = .idle ∧ s.port = some [0x06] ∧ s.sched = [])
      ∧ (t.st = .idle ∧ t.port = some [0x06] ∧ t.sched = .block false :: []) := by decide
theorem witness_EnvironmentAndHostMoves :
    { State.reset with sched := [.arrive 1] }.sched = .arrive 1 :: []
      ∧ { State.reset with sched := [.arrive 1] }.closed = false
      ∧ { State.reset with sched := [.arrive 1], closed := true }.closed = true
      ∧ { State.reset with sched := [.close] }.sched = .close :: []
      ∧ { State.reset with sched := [.present [6]] }.sched = .present [6] :: []
      ∧ { State.reset with sched := [.present [6]] }.port = none := by decide
/-- A block step, the reset line and a second presentation, each with a request held. -/
theorem witness_BusyBlockHoldsTheRequest :
    ∀ sched ∈ [[], [.reset], [.present [0x07]]],
      let s := { during .sending with port := some [0x06], sched := sched }
      s.st ≠ .idle ∧ s.port = some [0x06] ∧ (nextOf (step s)).isSome = true := by decide +kernel
theorem witness_OnlyTabledTransitions :
    (∃ t, blockStep false (during .awaitSync) = .next t) ∧ ∃ t, blockStep true (during .validated) = .next t :=
  ⟨⟨_, rfl⟩, ⟨_, rfl⟩⟩
theorem witness_TimeoutOnlyWhenNothingArrived :
    { during .awaitSync with rxq := [1] }.rxq ≠ [] ∧ { during .awaitSync with closed := true }.closed = true := by decide
theorem witness_StepKeepsInvariant : BlockInv State.reset ∧ ∃ t, step State.reset = .next t :=
  ⟨by constructor <;> decide, ⟨_, rfl⟩⟩
theorem witness_ReachableStatesAlwaysStep :
    Reachable { State.reset with
      cfg := Params.default, sched := [.present [0x06], .block true], rxq := [1], closed := false, txlog := [] } :=
  Reachable.start _ _ _ _ _ rfl
/-- A scan one miss from its bound, in a state with the invariant. -/
theorem witness_OperationEndsWithinItsBound :
    let s := { during .awaitSync with scanCnt := 99, cont := .read 3 }
    BlockInv s ∧ s.sched = [] ∧ s.st ≠ .idle := ⟨by constructor <;> decide, rfl, by decide⟩
theorem witness_OneResponsePerOperation :
    (∃ i t, exec i State.reset = .next t)
      ∧ ((during .readAck).st ≠ .idle ∧ ∃ e t, blockStep e (during .readAck) = .next t) :=
  ⟨⟨.ack, _, rfl⟩, by decide, true, _, rfl⟩
theorem witness_ClosedStreamEndsInIOError :
    ∀ st ∈ [ExchangeState.sending, .awaitSync, .readHdr, .readFixed, .readAck],
      { during st with closed := true }.closed = true ∧ { during st with closed := true }.st = st := by decide
theorem witness_StreamsAreQueues :
    (∃ t, step { during .readHdr with rxq := [1] } = .next t)
      ∧ ∃ t, step { State.reset with sched := [.arrive 1] } = .next t := ⟨⟨_, rfl⟩, ⟨_, rfl⟩⟩
theorem witness_ResetLineGivesResetValues :
    { during .readFixed with sched := [.reset] }.sched = .reset :: [] := rfl
theorem witness_ResponseBytesDetermineTheResponse :
    let r := { Result.blank with value := .bytes [1, 2] }
    r.valid = r.valid ∧ (r.ropV = false → r.rop = 0)
      ∧ (∃ a b, r.value = .bytes a ∧ r.value = .bytes b ∧ a.length ≤ 65535 ∧ b.length ≤ 65535)
      ∧ responseBytes r = responseBytes r := ⟨rfl, fun _ => rfl, ⟨_, _, rfl, rfl, by decide, by decide⟩, rfl⟩

end Sys2Proof.Tests
end

section
/-! PROOFS. The invariant of R34: what it asks in each state of `ST`, that every move of every agent keeps it, and
that a run from reset never stops. -/

namespace Sys2Proof.Machine

/-! ## The encoder's frames (R70, R82) -/

/-- R70: from byte 3 on, a frame holds its id and its command, which the checksum covers. -/
theorem encodeFrame_covered (p : Params) (x : Byte) (cmd : List Byte) :
    ((encodeFrame p x cmd).drop 3).take (cmd.length + 1) = x :: cmd := by
  simp [encodeFrame]

/-- R70: the last four bytes of a frame. -/
theorem encodeFrame_trailer (p : Params) (x : Byte) (cmd : List Byte) :
    (encodeFrame p x cmd).drop (cmd.length + 4) =
      [lowByte (crc16 (x :: cmd)), highByte (crc16 (x :: cmd)), p.syncA, p.syncB] := by
  simp [encodeFrame]

/-- R82, R121: a command whose length byte fits has a well-formed frame. -/
theorem frameWellFormed_encodeFrame (p : Params) (x : Byte) {cmd : List Byte} (h : cmd.length ≤ 254) :
    frameWellFormed p (encodeFrame p x cmd) = true := by
  have hcovered : (encodeFrame p x cmd).length - 7 = cmd.length + 1 := by rw [encodeFrame_length]; omega
  have htrailer : (encodeFrame p x cmd).length - 4 = cmd.length + 4 := by rw [encodeFrame_length]; omega
  have hsync : (encodeFrame p x cmd).take 2 = [p.syncA, p.syncB] := by simp [encodeFrame]
  have hlength : ((encodeFrame p x cmd).getD 2 0).toNat = cmd.length + 1 := by
    simp [encodeFrame, lengthByte]; omega
  simp only [frameWellFormed, hcovered, htrailer, hsync, hlength, encodeFrame_covered, encodeFrame_trailer]
  simp

/-! ## Counters -/

/-- A counter below its limit does not wrap when it is stepped, at any width. -/
theorem toNat_succ_of_below {w : Nat} {c limit : BitVec w} (h : c.toNat < limit.toNat) :
    (c + 1).toNat = c.toNat + 1 := by
  have hlimit := limit.isLt
  have hw : 0 < w := Nat.pos_of_ne_zero (by rintro rfl; omega)
  have hone : (1 : BitVec w).toNat = 1 := BitVec.toNat_one hw
  rw [BitVec.toNat_add, hone, Nat.mod_eq_of_lt (by omega)]

/-- A counter below its limit that a step does not take to the limit stays below it. -/
theorem toNat_succ_lt_of_ne {w : Nat} {c limit : BitVec w} (h : c.toNat < limit.toNat) (hne : c + 1 ≠ limit) :
    (c + 1).toNat < limit.toNat := by
  have hsucc := toNat_succ_of_below h
  have hne' : (c + 1).toNat ≠ limit.toNat := fun heq => hne (BitVec.eq_of_toNat_eq heq)
  omega

/-! ## The last byte of a read, and a write on a closed stream -/

theorem takeHeaderByte_last {s : State} (b : Byte) (h : s.hdrCnt + 1 = Config.hdrLen) :
    takeHeaderByte b s =
      { s with hdrBuf := setHeaderByte s.hdrBuf s.hdrCnt b, hdrCnt := s.hdrCnt + 1, st := .validated } := by
  unfold takeHeaderByte
  exact if_pos h

theorem takeFixedByte_last {s : State} (b : Byte) (h : s.rdCnt + 1 = s.rdN) :
    takeFixedByte b s =
      finishOk s.ctxV (.bytes (s.rdBuf ++ [b])) { s with rdBuf := s.rdBuf ++ [b], rdCnt := s.rdCnt + 1 } := by
  unfold takeFixedByte
  exact if_pos h

theorem takeAckByte_last {s : State} (b : Byte) (h : s.ackCnt + 1 = Config.ackLen) :
    takeAckByte b s =
      if ackComplete (setAckByte s.ackBuf s.ackCnt b) then
        finishOk s.ctxV .none { s with ackBuf := setAckByte s.ackBuf s.ackCnt b, ackCnt := s.ackCnt + 1 }
      else
        raiseFault .ackInvalid 0 0 s.ctxV
          { s with ackBuf := setAckByte s.ackBuf s.ackCnt b, ackCnt := s.ackCnt + 1 } := by
  unfold takeAckByte
  exact if_pos h

theorem sendingStep_closed {s : State} (h : s.closed = true) :
    sendingStep s =
      raiseFault .ioError 0 0 true
        { s with
          txlog := s.txlog ++ s.frame.take (min (Config.writeCut s.draws) s.frame.length)
          draws := s.draws + 1 } := by
  unfold sendingStep
  rw [rxDiscard_closed h, txWrite_closed _ h]

/-! ## The invariant by state -/

/-- What `BlockInv` asks of the registers in each state of `ST` (R21, R25, R34 (b) to (f)). -/
def StateRegs (s : State) : Prop :=
  match s.st with
  | .idle => s.cont = .none
  | .sending =>
    s.ctxV = true ∧ frameWellFormed s.cfg s.frame = true ∧ s.frame.length ≤ s.cfg.maxCmdLen.toNat + 8
      ∧ s.frame[3]? = some s.xid ∧ s.frame[4]? = some s.ctxOp
  | .awaitSync => s.ctxV = true ∧ s.scanCnt.toNat < 100
  | .readHdr => s.ctxV = true ∧ s.hdrCnt.toNat < 5
  | .validated => s.ctxV = true ∧ s.hdrCnt = 5
  | .readFixed => s.cont = .none ∧ s.rdCnt.toNat < s.rdN.toNat ∧ s.rdBuf.length = s.rdCnt.toNat
  | .readAck => s.cont = .none ∧ s.ackCnt.toNat < 4
  | .unused => False

/-- What `BlockInv` asks of a delivered result (R27, R212, R213). -/
structure Result.Consistent (r : Result) : Prop where
  maskOfMismatch : r.mask ≠ 0 ↔ r.status = .headerMismatch
  subOfTimeout : r.status ≠ .timeout → r.sub = 0

/-- The invariant is a legal configuration, the registers of the state, and a consistent delivered result. -/
theorem blockInv_iff (s : State) :
    BlockInv s ↔ s.cfg.wf = true ∧ StateRegs s ∧ (s.res.valid = true → s.res.Consistent) := by
  constructor
  · intro h
    refine ⟨h.cfgWf, ?_, fun hv => ⟨h.maskOfMismatch hv, h.subOfTimeout hv⟩⟩
    unfold StateRegs
    split
    · next hst => exact h.contTaken (by rw [hst]; rfl)
    · next hst => exact ⟨h.ctxValid (by rw [hst]; rfl), h.frameReady hst⟩
    · next hst => exact ⟨h.ctxValid (by rw [hst]; rfl), h.scanBelowLimit hst⟩
    · next hst => exact ⟨h.ctxValid (by rw [hst]; rfl), h.headerIncomplete hst⟩
    · next hst => exact ⟨h.ctxValid (by rw [hst]; rfl), h.headerComplete hst⟩
    · next hst => exact ⟨h.contTaken (by rw [hst]; rfl), h.fixedIncomplete hst⟩
    · next hst => exact ⟨h.contTaken (by rw [hst]; rfl), h.ackIncomplete hst⟩
    · next hst => exact h.stUsed hst
  · rintro ⟨hcfg, hregs, hres⟩
    unfold StateRegs at hregs
    have hmask := fun hv => (hres hv).maskOfMismatch
    have hsub := fun hv => (hres hv).subOfTimeout
    -- In each state every clause is that state's own part of `hregs`, or speaks of another state.
    split at hregs <;> constructor <;> simp_all [inExchange]

theorem BlockInv.consistent {s : State} (h : BlockInv s) : s.res.valid = true → s.res.Consistent :=
  ((blockInv_iff s).mp h).2.2

/-- While no operation ends, only the registers of the new state are in question. -/
theorem BlockInv.of_stateRegs {s t : State} (h : BlockInv s) (hcfg : t.cfg = s.cfg) (hres : t.res = s.res)
    (hregs : StateRegs t) : BlockInv t :=
  (blockInv_iff t).mpr ⟨hcfg ▸ h.cfgWf, hregs, hres ▸ h.consistent⟩

/-- The queues, the port, the log and the schedule play no part in the invariant. -/
theorem BlockInv.environment {s : State} (h : BlockInv s) (rxq : List Byte) (closed : Bool)
    (port : Option (List Byte)) (sched : List Event) :
    BlockInv { s with rxq := rxq, closed := closed, port := port, sched := sched } :=
  { h with }

/-! ## The ends of an operation -/

section Ends

variable {s : State}

/-- R149: `finish` leaves the block idle with no continuation, so only its result is in question. -/
theorem blockInv_finish {r : Result} (hcfg : s.cfg.wf = true) (hr : r.Consistent) : BlockInv (finish r s) :=
  (blockInv_iff _).mpr ⟨hcfg, rfl, fun _ => ⟨hr.maskOfMismatch, hr.subOfTimeout⟩⟩

theorem blockInv_finishOk (v : Bool) (x : Value) (hcfg : s.cfg.wf = true) : BlockInv (finishOk v x s) :=
  blockInv_finish hcfg ⟨by simp [Result.blank], fun _ => rfl⟩

theorem blockInv_raiseFault {status : Status} {sub : BitVec 2} {mask : BitVec 5} (v : Bool) (hcfg : s.cfg.wf = true)
    (hmask : mask ≠ 0 ↔ status = .headerMismatch) (hsub : status ≠ .timeout → sub = 0) :
    BlockInv (raiseFault status sub mask v s) :=
  blockInv_finish hcfg ⟨hmask, hsub⟩

end Ends

/-! ## Accept steps -/

section Steps

variable {s t : State}

/-- R141, R121: an accepted exchange has its frame ready. -/
theorem BlockInv.begun (h : BlockInv s) {op : Byte} {args : List Byte} (k : Cont)
    (hlen : (op :: args).length ≤ s.cfg.maxCmdLen.toNat) : BlockInv (begun op args k s) := by
  have hmax : s.cfg.maxCmdLen.toNat ≤ 254 := by simpa [Params.wf] using h.cfgWf
  have hframe := frameWellFormed_encodeFrame s.cfg (s.xid + 1) (hlen.trans hmax)
  have hfits : (encodeFrame s.cfg (s.xid + 1) (op :: args)).length ≤ s.cfg.maxCmdLen.toNat + 8 := by
    rw [encodeFrame_length]; omega
  exact h.of_stateRegs rfl rfl (And.intro rfl ⟨hframe, hfits, rfl, rfl⟩)

theorem BlockInv.beginExchange (h : BlockInv s) (cmd : List Byte) (k : Cont) : BlockInv (beginExchange cmd k s) := by
  refine beginExchange_cases cmd k s ?_ ?_ ?_
  · exact blockInv_finish h.cfgWf ⟨by simp [Result.blank], fun _ => rfl⟩
  · exact fun _ _ _ => blockInv_raiseFault _ h.cfgWf (by decide) (by decide)
  · exact fun _ _ hlen => h.begun k hlen

theorem BlockInv.startRead (h : BlockInv s) (n : Word16) (hcont : s.cont = .none) : BlockInv (startRead n s) := by
  by_cases hn : n = 0
  · rw [hn, startRead_zero]
    exact blockInv_finishOk _ _ h.cfgWf
  · rw [startRead_pos s hn]
    have hpos : (0 : Word16).toNat < n.toNat := Nat.pos_of_ne_zero fun h0 => hn (BitVec.eq_of_toNat_eq h0)
    exact h.of_stateRegs rfl rfl (And.intro hcont ⟨hpos, rfl⟩)

theorem BlockInv.startAck (h : BlockInv s) (hcont : s.cont = .none) : BlockInv (startAck s) :=
  h.of_stateRegs rfl rfl (And.intro hcont (by simp))

/-- R84: every accept step, taken in `IDLE`, keeps the invariant. -/
theorem BlockInv.exec (h : BlockInv s) (hst : s.st = .idle) {i : Instr} (hx : exec i s = .next t) : BlockInv t := by
  have hcont : s.cont = .none := h.contTaken (by rw [hst]; rfl)
  refine exec_cases hx ?crc16 ?encodeLong ?encode ?vhdr ?read ?ack ?begin ?illegal
  case crc16 => exact fun _ => blockInv_finishOk _ _ h.cfgWf
  case encodeLong => exact fun _ _ => blockInv_finish h.cfgWf ⟨by simp [Result.blank], fun _ => rfl⟩
  case encode => exact fun _ _ => blockInv_finish h.cfgWf ⟨by simp [Result.blank], fun _ => rfl⟩
  case vhdr => exact fun _ _ _ => blockInv_finish h.cfgWf ⟨by simp, fun _ => rfl⟩
  case read => exact fun n => h.startRead n hcont
  case ack => exact h.startAck hcont
  case begin => exact fun cmd k => h.beginExchange cmd k
  case illegal => exact blockInv_raiseFault _ h.cfgWf (by decide) (by decide)

/-! ## Steps of the exchange states -/

theorem BlockInv.sendingStep (h : BlockInv s) (hst : s.st = .sending) : BlockInv (sendingStep s) := by
  cases hc : s.closed with
  | true =>
    rw [sendingStep_closed hc]
    exact blockInv_raiseFault _ h.cfgWf (by decide) (by decide)
  | false =>
    rw [sendingStep_open hc]
    have hctx : s.ctxV = true := h.ctxValid (by rw [hst]; rfl)
    exact h.of_stateRegs rfl rfl (And.intro hctx (by simp))

/-- R145: a miss keeps `SCAN_CNT` below its limit or ends the exchange. -/
theorem BlockInv.scanMiss (h : BlockInv s) (hst : s.st = .awaitSync) : BlockInv (scanMiss s) := by
  by_cases hlast : s.scanCnt + 1 = Config.scanLimit
  · rw [scanMiss_limit hlast]
    exact blockInv_raiseFault _ h.cfgWf (by decide) (by decide)
  · rw [scanMiss_below hlast]
    have hctx : s.ctxV = true := h.ctxValid (by rw [hst]; rfl)
    have hcnt : (s.scanCnt + 1).toNat < 100 := toNat_succ_lt_of_ne (h.scanBelowLimit hst) hlast
    exact h.of_stateRegs rfl rfl (by simpa only [StateRegs, hst] using ⟨hctx, hcnt⟩)

theorem BlockInv.awaitSyncStep (h : BlockInv s) (hst : s.st = .awaitSync) (e : Bool) :
    BlockInv (awaitSyncStep e s) := by
  have hctx : s.ctxV = true := h.ctxValid (by rw [hst]; rfl)
  refine awaitSyncStep_cases e s ?io ?sync ?other ?timeout ?wait
  case io => exact fun _ => blockInv_raiseFault _ h.cfgWf (by decide) (by decide)
  case sync => exact fun _ _ _ => h.of_stateRegs rfl rfl (And.intro hctx (by simp))
  case other => exact fun _ rest _ _ _ => (h.environment rest s.closed s.port s.sched).scanMiss hst
  case timeout =>
    intro _ _ _
    split
    · exact h.scanMiss hst
    · exact blockInv_raiseFault _ h.cfgWf (by decide) (by decide)
  case wait => exact fun _ _ _ => h

/-- R147: a header byte keeps `HDR_CNT` below its limit or completes the header. -/
theorem BlockInv.takeHeaderByte (h : BlockInv s) (hst : s.st = .readHdr) (b : Byte) :
    BlockInv (takeHeaderByte b s) := by
  have hctx : s.ctxV = true := h.ctxValid (by rw [hst]; rfl)
  by_cases hlast : s.hdrCnt + 1 = Config.hdrLen
  · rw [takeHeaderByte_last b hlast]
    exact h.of_stateRegs rfl rfl (And.intro hctx hlast)
  · rw [takeHeaderByte_below b hlast]
    have hcnt : (s.hdrCnt + 1).toNat < 5 := toNat_succ_lt_of_ne (h.headerIncomplete hst) hlast
    exact h.of_stateRegs rfl rfl (by simpa only [StateRegs, hst] using ⟨hctx, hcnt⟩)

theorem BlockInv.readHdrStep (h : BlockInv s) (hst : s.st = .readHdr) (e : Bool) : BlockInv (readHdrStep e s) := by
  refine readHdrStep_cases e s ?io ?byte ?timeout ?wait
  case io => exact fun _ => blockInv_raiseFault _ h.cfgWf (by decide) (by decide)
  case byte => exact fun b rest _ _ => (h.environment rest s.closed s.port s.sched).takeHeaderByte hst b
  case timeout => exact fun _ _ _ => blockInv_raiseFault _ h.cfgWf (by decide) (by decide)
  case wait => exact fun _ _ _ => h

/-- R148: in `VALIDATED` the invariant does not depend on whether a continuation is pending. -/
theorem BlockInv.takeCont (h : BlockInv s) (hst : s.st = .validated) : BlockInv { s with cont := .none } := by
  have hctx : s.ctxV = true := h.ctxValid (by rw [hst]; rfl)
  exact h.of_stateRegs rfl rfl (by simpa only [StateRegs, hst] using ⟨hctx, h.headerComplete hst⟩)

/-- R148: the check of the header takes the continuation. -/
theorem BlockInv.validatedStep (h : BlockInv s) (hst : s.st = .validated) : BlockInv (validatedStep s) := by
  refine validatedStep_cases s ?mismatch ?done ?read ?ack
  case mismatch => exact fun hm => blockInv_raiseFault _ h.cfgWf (iff_of_true hm rfl) (fun _ => rfl)
  case done => exact fun _ => blockInv_finishOk _ _ h.cfgWf
  case read => exact fun n _ => (h.takeCont hst).startRead n rfl
  case ack => exact fun _ => (h.takeCont hst).startAck rfl

/-- R171: a payload byte keeps `RD_CNT` below `RD_N` and at the length of `RD_BUF`, or ends the read. -/
theorem BlockInv.takeFixedByte (h : BlockInv s) (hst : s.st = .readFixed) (b : Byte) :
    BlockInv (takeFixedByte b s) := by
  by_cases hlast : s.rdCnt + 1 = s.rdN
  · rw [takeFixedByte_last b hlast]
    exact blockInv_finishOk _ _ h.cfgWf
  · rw [takeFixedByte_below b hlast]
    obtain ⟨hlt, hbuf⟩ := h.fixedIncomplete hst
    have hcont : s.cont = .none := h.contTaken (by rw [hst]; rfl)
    have hlen : (s.rdBuf ++ [b]).length = (s.rdCnt + 1).toNat := by
      rw [List.length_append, hbuf, toNat_succ_of_below hlt, List.length_singleton]
    have hcnt := toNat_succ_lt_of_ne hlt hlast
    exact h.of_stateRegs rfl rfl (by simpa only [StateRegs, hst] using ⟨hcont, hcnt, hlen⟩)

theorem BlockInv.readFixedStep (h : BlockInv s) (hst : s.st = .readFixed) (e : Bool) :
    BlockInv (readFixedStep e s) := by
  refine readFixedStep_cases e s ?io ?byte ?timeout ?wait
  case io => exact fun _ => blockInv_raiseFault _ h.cfgWf (by decide) (by decide)
  case byte => exact fun b rest _ _ => (h.environment rest s.closed s.port s.sched).takeFixedByte hst b
  case timeout => exact fun _ _ _ => blockInv_raiseFault _ h.cfgWf (by decide) (by decide)
  case wait => exact fun _ _ _ => h

/-- R173: an acknowledgement byte keeps `ACK_CNT` below its limit or ends the read by the check of all four. -/
theorem BlockInv.takeAckByte (h : BlockInv s) (hst : s.st = .readAck) (b : Byte) : BlockInv (takeAckByte b s) := by
  by_cases hlast : s.ackCnt + 1 = Config.ackLen
  · rw [takeAckByte_last b hlast]
    split
    · exact blockInv_finishOk _ _ h.cfgWf
    · exact blockInv_raiseFault _ h.cfgWf (by decide) (by decide)
  · rw [takeAckByte_below b hlast]
    have hcont : s.cont = .none := h.contTaken (by rw [hst]; rfl)
    have hcnt : (s.ackCnt + 1).toNat < 4 := toNat_succ_lt_of_ne (h.ackIncomplete hst) hlast
    exact h.of_stateRegs rfl rfl (by simpa only [StateRegs, hst] using ⟨hcont, hcnt⟩)

/-- R173, C5: a short acknowledgement read ends in a fault of either kind. -/
theorem BlockInv.shortAck (h : BlockInv s) : BlockInv (shortAck s) := by
  unfold Machine.shortAck
  split
  · exact blockInv_raiseFault _ h.cfgWf (by decide) (by decide)
  · exact blockInv_raiseFault _ h.cfgWf (by decide) (by decide)

theorem BlockInv.readAckStep (h : BlockInv s) (hst : s.st = .readAck) (e : Bool) : BlockInv (readAckStep e s) := by
  refine readAckStep_cases e s ?io ?byte ?timeout ?wait
  case io => exact fun _ => blockInv_raiseFault _ h.cfgWf (by decide) (by decide)
  case byte => exact fun b rest _ _ => (h.environment rest s.closed s.port s.sched).takeAckByte hst b
  case timeout => exact fun _ _ _ => h.shortAck
  case wait => exact fun _ _ _ => h

/-! ## The moves of the agents -/

theorem BlockInv.blockStep (h : BlockInv s) {e : Bool} (hstep : blockStep e s = .next t) : BlockInv t := by
  refine blockStep_cases hstep ?idle ?accept ?sending ?scan ?header ?validated ?fixed ?ack
  case idle => exact fun _ _ => h
  case accept => exact fun _ hst _ hx => (h.environment s.rxq s.closed none s.sched).exec hst hx
  case sending => exact h.sendingStep
  case scan => exact fun hst => h.awaitSyncStep hst e
  case header => exact fun hst => h.readHdrStep hst e
  case validated => exact h.validatedStep
  case fixed => exact fun hst => h.readFixedStep hst e
  case ack => exact fun hst => h.readAckStep hst e

theorem BlockInv.arrive (h : BlockInv s) (b : Byte) : BlockInv (arrive b s) := by
  cases hc : s.closed with
  | true => rw [arrive_closed b hc]; exact h
  | false => rw [arrive_open b hc]; exact h.environment _ s.closed s.port s.sched

theorem BlockInv.present (h : BlockInv s) (req : List Byte) : BlockInv (present req s) := by
  cases hp : s.port with
  | none => rw [present_free req hp]; exact h.environment s.rxq s.closed _ s.sched
  | some held => rw [present_held req hp]; exact h

/-- R240, R35: the reset line gives the registers of reset, with no delivered result, and keeps the configuration. -/
theorem BlockInv.resetLine (h : BlockInv s) : BlockInv (resetLine s) :=
  (blockInv_iff _).mpr ⟨h.cfgWf, rfl, nofun⟩

/-- R6: a move of any agent keeps the invariant. -/
theorem BlockInv.runEvent (h : BlockInv s) {e : Event} (hrun : runEvent e s = .next t) : BlockInv t := by
  cases e with
  | arrive b => cases hrun; exact h.arrive b
  | close => cases hrun; exact h.environment s.rxq true s.port s.sched
  | present req => cases hrun; exact h.present req
  | reset => cases hrun; exact h.resetLine
  | block elapsed => exact h.blockStep hrun

theorem BlockInv.step (h : BlockInv s) (hstep : step s = .next t) : BlockInv t := by
  cases hs : s.sched with
  | nil => rw [step_unscheduled hs] at hstep; exact h.blockStep hstep
  | cons e rest =>
    rw [step_scheduled hs] at hstep
    exact (h.environment s.rxq s.closed s.port rest).runEvent hstep

end Steps

/-! ## Runs from reset -/

/-- R35: the registers of reset, under any legal configuration and any environment. -/
theorem blockInv_start (p : Params) (sched : List Event) (rxq : List Byte) (closed : Bool) (txlog : List Byte)
    (hp : p.wf = true) :
    BlockInv { State.reset with cfg := p, sched := sched, rxq := rxq, closed := closed, txlog := txlog } :=
  (blockInv_iff _).mpr ⟨hp, rfl, nofun⟩

theorem Reachable.blockInv {s : State} (h : Reachable s) : BlockInv s := by
  induction h with
  | start p sched rxq closed txlog hp => exact blockInv_start p sched rxq closed txlog hp
  | next s t _ hstep ih => exact ih.step hstep

/-- R211: no instruction stops the machine; a fault of an operation is a result. -/
theorem exec_next (i : Instr) (s : State) : ∃ t, exec i s = .next t := by
  cases i with
  | encode x cmd =>
    simp only [exec, execEncode]
    split <;> exact ⟨_, rfl⟩
  | _ => exact ⟨_, rfl⟩

/-- R21, I20: a step of the block stops only at the unused code of `ST`. -/
theorem blockStep_next {s : State} (e : Bool) (h : s.st ≠ .unused) : ∃ t, blockStep e s = .next t := by
  cases hst : s.st with
  | idle =>
    cases hp : s.port with
    | none => exact ⟨_, blockStep_idle e hst hp⟩
    | some req => rw [blockStep_accepts e hst hp]; exact exec_next _ _
  | sending => exact ⟨_, blockStep_sending e hst⟩
  | awaitSync => exact ⟨_, blockStep_awaitSync e hst⟩
  | readHdr => exact ⟨_, blockStep_readHdr e hst⟩
  | validated => exact ⟨_, blockStep_validated e hst⟩
  | readFixed => exact ⟨_, blockStep_readFixed e hst⟩
  | readAck => exact ⟨_, blockStep_readAck e hst⟩
  | unused => exact absurd hst h

theorem runEvent_next {s : State} (e : Event) (h : s.st ≠ .unused) : ∃ t, runEvent e s = .next t := by
  cases e with
  | block elapsed => exact blockStep_next elapsed h
  | _ => exact ⟨_, rfl⟩

theorem step_next {s : State} (h : s.st ≠ .unused) : ∃ t, step s = .next t := by
  cases hs : s.sched with
  | nil => rw [step_unscheduled hs]; exact blockStep_next true h
  | cons e rest => rw [step_scheduled hs]; exact runEvent_next e h

/-! ## The obligations -/

/-- Settles O51: the moves of the environment, the host and the reset line by the fields they touch, the block's by its
state. -/
theorem stepKeepsInvariant : Obligations.StepKeepsInvariant := fun _ _ h hstep => h.step hstep

/-- Settles O52: at reset the block is idle, nothing is pending and nothing has been delivered. -/
theorem invariantAtReset : Obligations.InvariantAtReset := blockInv_start _ _ _ _ _ rfl

/-- Settles O53, by the invariant along the run: it excludes the one code of `ST` at which the block stops. -/
theorem reachableStatesAlwaysStep : Obligations.ReachableStatesAlwaysStep :=
  fun _ h => ⟨h.blockInv, step_next h.blockInv.stUsed⟩

end Sys2Proof.Machine
end

section
/-! PROOFS. The streams (spec/20_memory.md): which moves of the block leave them alone, what one step can do to them
(R51 to R55), what the environment and the host change, and when the timeout choice plays no part (R52). -/

namespace Sys2Proof.Machine

/-! ## The streams left alone -/

/-- The configuration and the streams are the same in both states. -/
structure SameStreams (s t : State) : Prop where
  cfg : t.cfg = s.cfg
  closed : t.closed = s.closed
  txlog : t.txlog = s.txlog
  rxq : t.rxq = s.rxq

theorem SameStreams.refl (s : State) : SameStreams s s := ⟨rfl, rfl, rfl, rfl⟩

/-- R149: the end of an operation touches no stream. -/
theorem sameStreams_finish (r : Result) (s : State) : SameStreams s (finish r s) := ⟨rfl, rfl, rfl, rfl⟩

theorem sameStreams_finishOk (v : Bool) (x : Value) (s : State) : SameStreams s (finishOk v x s) :=
  ⟨rfl, rfl, rfl, rfl⟩

/-- R220: a fault rolls nothing back. -/
theorem sameStreams_raiseFault (status : Status) (sub : BitVec 2) (mask : BitVec 5) (v : Bool) (s : State) :
    SameStreams s (raiseFault status sub mask v s) := ⟨rfl, rfl, rfl, rfl⟩

theorem sameStreams_startRead (n : Word16) (s : State) : SameStreams s (startRead n s) := by
  by_cases hn : n = 0
  · rw [hn, startRead_zero]
    exact sameStreams_finishOk _ _ _
  · rw [startRead_pos s hn]
    exact ⟨rfl, rfl, rfl, rfl⟩

theorem sameStreams_startAck (s : State) : SameStreams s (startAck s) := ⟨rfl, rfl, rfl, rfl⟩

/-- R143: no byte moves before the frame is ready. -/
theorem sameStreams_beginExchange (cmd : List Byte) (k : Cont) (s : State) :
    SameStreams s (beginExchange cmd k s) := by
  refine beginExchange_cases cmd k s ?empty ?long ?begun
  case empty => exact ⟨rfl, rfl, rfl, rfl⟩
  case long => exact fun _ _ _ => ⟨rfl, rfl, rfl, rfl⟩
  case begun => exact fun _ _ _ => ⟨rfl, rfl, rfl, rfl⟩

/-- R84: accepting a request moves no byte; the streams move in the later steps of the operation. -/
theorem sameStreams_exec {i : Instr} {s t : State} (h : exec i s = .next t) : SameStreams s t := by
  refine exec_cases h ?crc16 ?encodeLong ?encode ?vhdr ?read ?ack ?begin ?illegal
  case crc16 => exact fun _ => ⟨rfl, rfl, rfl, rfl⟩
  case encodeLong => exact fun _ _ => sameStreams_finish _ _
  case encode => exact fun _ _ => ⟨rfl, rfl, rfl, rfl⟩
  case vhdr => exact fun _ _ _ => sameStreams_finish _ _
  case read => exact fun n => sameStreams_startRead n s
  case ack => exact sameStreams_startAck s
  case begin => exact fun cmd k => sameStreams_beginExchange cmd k s
  case illegal => exact sameStreams_raiseFault _ _ _ _ _

theorem sameStreams_scanMiss (s : State) : SameStreams s (scanMiss s) := by
  by_cases hlast : s.scanCnt + 1 = Config.scanLimit
  · rw [scanMiss_limit hlast]
    exact ⟨rfl, rfl, rfl, rfl⟩
  · rw [scanMiss_below hlast]
    exact ⟨rfl, rfl, rfl, rfl⟩

theorem sameStreams_takeHeaderByte (b : Byte) (s : State) : SameStreams s (takeHeaderByte b s) := by
  by_cases hlast : s.hdrCnt + 1 = Config.hdrLen
  · rw [takeHeaderByte_last b hlast]
    exact ⟨rfl, rfl, rfl, rfl⟩
  · rw [takeHeaderByte_below b hlast]
    exact ⟨rfl, rfl, rfl, rfl⟩

theorem sameStreams_validatedStep (s : State) : SameStreams s (validatedStep s) := by
  refine validatedStep_cases s ?mismatch ?done ?read ?ack
  case mismatch => exact fun _ => sameStreams_raiseFault _ _ _ _ _
  case done => exact fun _ => sameStreams_finishOk _ _ _
  case read =>
    intro n _
    have h := sameStreams_startRead n { s with cont := .none }
    exact ⟨h.cfg, h.closed, h.txlog, h.rxq⟩
  case ack => exact fun _ => ⟨rfl, rfl, rfl, rfl⟩

theorem sameStreams_takeFixedByte (b : Byte) (s : State) : SameStreams s (takeFixedByte b s) := by
  by_cases hlast : s.rdCnt + 1 = s.rdN
  · rw [takeFixedByte_last b hlast]
    exact ⟨rfl, rfl, rfl, rfl⟩
  · rw [takeFixedByte_below b hlast]
    exact ⟨rfl, rfl, rfl, rfl⟩

theorem sameStreams_takeAckByte (b : Byte) (s : State) : SameStreams s (takeAckByte b s) := by
  by_cases hlast : s.ackCnt + 1 = Config.ackLen
  · rw [takeAckByte_last b hlast]
    split
    · exact ⟨rfl, rfl, rfl, rfl⟩
    · exact ⟨rfl, rfl, rfl, rfl⟩
  · rw [takeAckByte_below b hlast]
    exact ⟨rfl, rfl, rfl, rfl⟩

theorem sameStreams_shortAck (s : State) : SameStreams s (shortAck s) := by
  unfold shortAck
  split
  · exact sameStreams_raiseFault _ _ _ _ _
  · exact sameStreams_raiseFault _ _ _ _ _

/-! ## The streams as queues -/

/-- What one step can do to the configuration and the streams (R29, R51 to R55). -/
structure QueueMove (s t : State) : Prop where
  cfg : t.cfg = s.cfg
  closed : s.closed = true → t.closed = true
  txlog : s.txlog <+: t.txlog
  rxq : t.rxq = s.rxq ∨ (∃ b, t.rxq = s.rxq ++ [b]) ∨ (∃ b, s.rxq = b :: t.rxq) ∨ (s.st = .sending ∧ t.rxq = [])

section Moves

variable {s t : State}

theorem SameStreams.queueMove (h : SameStreams s t) : QueueMove s t where
  cfg := h.cfg
  closed := h.closed.trans
  txlog := h.txlog ▸ List.prefix_rfl
  rxq := .inl h.rxq

/-- R52: a read attempt takes the front byte, and what is then done with the byte touches no stream. -/
theorem queueMove_of_byte {b : Byte} {rest : List Byte} (hq : s.rxq = b :: rest)
    (h : SameStreams { s with rxq := rest } t) : QueueMove s t where
  cfg := h.cfg
  closed := h.closed.trans
  txlog := h.txlog ▸ List.prefix_rfl
  rxq := .inr (.inr (.inl ⟨b, by rw [hq, h.rxq]⟩))

/-- R54, R55: an open stream is discarded and then written; a closed one loses nothing, and a part of the frame may
have left. -/
theorem queueMove_sendingStep (hst : s.st = .sending) : QueueMove s (sendingStep s) := by
  cases hc : s.closed with
  | true =>
    rw [sendingStep_closed hc]
    exact ⟨rfl, id, List.prefix_append _ _, .inl rfl⟩
  | false =>
    rw [sendingStep_open hc]
    exact ⟨rfl, id, List.prefix_append _ _, .inr (.inr (.inr ⟨hst, rfl⟩))⟩

theorem queueMove_awaitSyncStep (e : Bool) (s : State) : QueueMove s (awaitSyncStep e s) := by
  refine awaitSyncStep_cases e s ?io ?sync ?other ?timeout ?wait
  case io => exact fun _ => (sameStreams_raiseFault _ _ _ _ _).queueMove
  case sync => exact fun _ _ hq => queueMove_of_byte hq ⟨rfl, rfl, rfl, rfl⟩
  case other => exact fun _ _ _ hq _ => queueMove_of_byte hq (sameStreams_scanMiss _)
  case timeout =>
    intro _ _ _
    split
    · exact (sameStreams_scanMiss s).queueMove
    · exact (sameStreams_raiseFault _ _ _ _ _).queueMove
  case wait => exact fun _ _ _ => (SameStreams.refl s).queueMove

theorem queueMove_readHdrStep (e : Bool) (s : State) : QueueMove s (readHdrStep e s) := by
  refine readHdrStep_cases e s ?io ?byte ?timeout ?wait
  case io => exact fun _ => (sameStreams_raiseFault _ _ _ _ _).queueMove
  case byte => exact fun b _ _ hq => queueMove_of_byte hq (sameStreams_takeHeaderByte b _)
  case timeout => exact fun _ _ _ => (sameStreams_raiseFault _ _ _ _ _).queueMove
  case wait => exact fun _ _ _ => (SameStreams.refl s).queueMove

theorem queueMove_readFixedStep (e : Bool) (s : State) : QueueMove s (readFixedStep e s) := by
  refine readFixedStep_cases e s ?io ?byte ?timeout ?wait
  case io => exact fun _ => (sameStreams_raiseFault _ _ _ _ _).queueMove
  case byte => exact fun b _ _ hq => queueMove_of_byte hq (sameStreams_takeFixedByte b _)
  case timeout => exact fun _ _ _ => (sameStreams_raiseFault _ _ _ _ _).queueMove
  case wait => exact fun _ _ _ => (SameStreams.refl s).queueMove

theorem queueMove_readAckStep (e : Bool) (s : State) : QueueMove s (readAckStep e s) := by
  refine readAckStep_cases e s ?io ?byte ?timeout ?wait
  case io => exact fun _ => (sameStreams_raiseFault _ _ _ _ _).queueMove
  case byte => exact fun b _ _ hq => queueMove_of_byte hq (sameStreams_takeAckByte b _)
  case timeout => exact fun _ _ _ => (sameStreams_shortAck s).queueMove
  case wait => exact fun _ _ _ => (SameStreams.refl s).queueMove

theorem queueMove_blockStep {e : Bool} (hstep : blockStep e s = .next t) : QueueMove s t := by
  refine blockStep_cases hstep ?idle ?accept ?sending ?scan ?header ?validated ?fixed ?ack
  case idle => exact fun _ _ => (SameStreams.refl s).queueMove
  case accept =>
    intro _ _ _ hx
    have h := sameStreams_exec hx
    exact SameStreams.queueMove ⟨h.cfg, h.closed, h.txlog, h.rxq⟩
  case sending => exact queueMove_sendingStep
  case scan => exact fun _ => queueMove_awaitSyncStep e s
  case header => exact fun _ => queueMove_readHdrStep e s
  case validated => exact fun _ => (sameStreams_validatedStep s).queueMove
  case fixed => exact fun _ => queueMove_readFixedStep e s
  case ack => exact fun _ => queueMove_readAckStep e s

/-- R51: an arrival is at the end of the queue, and a closed stream takes none. -/
theorem queueMove_arrive (b : Byte) (s : State) : QueueMove s (arrive b s) := by
  cases hc : s.closed with
  | true => rw [arrive_closed b hc]; exact (SameStreams.refl s).queueMove
  | false => rw [arrive_open b hc]; exact ⟨rfl, id, List.prefix_rfl, .inr (.inl ⟨b, rfl⟩)⟩

theorem queueMove_close (s : State) : QueueMove s (close s) := ⟨rfl, fun _ => rfl, List.prefix_rfl, .inl rfl⟩

theorem sameStreams_present (req : List Byte) (s : State) : SameStreams s (present req s) := by
  cases hp : s.port with
  | none => rw [present_free req hp]; exact ⟨rfl, rfl, rfl, rfl⟩
  | some held => rw [present_held req hp]; exact .refl s

/-- R241: the reset line leaves the configuration and the streams as they are. -/
theorem sameStreams_resetLine (s : State) : SameStreams s (resetLine s) := ⟨rfl, rfl, rfl, rfl⟩

/-- R6: one move of any agent. -/
theorem queueMove_runEvent {e : Event} (hrun : runEvent e s = .next t) : QueueMove s t := by
  cases e with
  | arrive b => cases hrun; exact queueMove_arrive b s
  | close => cases hrun; exact queueMove_close s
  | present req => cases hrun; exact (sameStreams_present req s).queueMove
  | reset => cases hrun; exact (sameStreams_resetLine s).queueMove
  | block elapsed => exact queueMove_blockStep hrun

theorem queueMove_step (hstep : step s = .next t) : QueueMove s t := by
  cases hs : s.sched with
  | nil => rw [step_unscheduled hs] at hstep; exact queueMove_blockStep hstep
  | cons e rest =>
    rw [step_scheduled hs] at hstep
    have h := queueMove_runEvent hstep
    exact ⟨h.cfg, h.closed, h.txlog, h.rxq⟩

end Moves

/-! ## The timeout choice -/

section Timeout

variable {s : State}

/-- R52: with a byte queued or the stream closed, a read attempt ends without a timeout, elapsed or not. -/
theorem rxRead_elapsed_irrelevant (h : s.rxq ≠ [] ∨ s.closed = true) : rxRead true s = rxRead false s := by
  cases hc : s.closed with
  | true => rw [rxRead_closed hc, rxRead_closed hc]
  | false =>
    have hne : s.rxq ≠ [] := h.resolve_right (by simp [hc])
    obtain ⟨b, rest, hq⟩ := List.exists_cons_of_ne_nil hne
    rw [rxRead_byte hc hq, rxRead_byte hc hq]

/-- R52, R224: only the four states that read can see the choice, and they see it through their read attempt. -/
theorem blockStep_elapsed_irrelevant (h : s.rxq ≠ [] ∨ s.closed = true) : blockStep true s = blockStep false s := by
  have hread := rxRead_elapsed_irrelevant h
  cases hst : s.st with
  | idle => simp only [blockStep, hst]
  | sending => rw [blockStep_sending true hst, blockStep_sending false hst]
  | awaitSync => rw [blockStep_awaitSync true hst, blockStep_awaitSync false hst]; simp only [awaitSyncStep, hread]
  | readHdr => rw [blockStep_readHdr true hst, blockStep_readHdr false hst]; simp only [readHdrStep, hread]
  | validated => rw [blockStep_validated true hst, blockStep_validated false hst]
  | readFixed => rw [blockStep_readFixed true hst, blockStep_readFixed false hst]; simp only [readFixedStep, hread]
  | readAck => rw [blockStep_readAck true hst, blockStep_readAck false hst]; simp only [readAckStep, hread]
  | unused => simp only [blockStep, hst]

end Timeout

/-! ## The obligations -/

/-- Settles O57, by what each agent's move does to the streams. -/
theorem streamsAreQueues : Obligations.StreamsAreQueues := by
  intro s t hstep
  obtain ⟨hcfg, hclosed, htxlog, hrxq⟩ := queueMove_step hstep
  exact ⟨hcfg, hclosed, htxlog, hrxq⟩

/-- Settles O47: the first scheduled move is the one that runs. -/
theorem environmentAndHostMoves : Obligations.EnvironmentAndHostMoves := by
  intro s rest
  refine ⟨?arriveOpen, ?arriveClosed, ?close, ?present⟩
  case arriveOpen =>
    intro b hs hc
    rw [step_scheduled hs, runEvent, arrive_open (s := { s with sched := rest }) b hc]
  case arriveClosed =>
    intro b hs hc
    rw [step_scheduled hs, runEvent, arrive_closed (s := { s with sched := rest }) b hc]
  case close =>
    intro hs
    rw [step_scheduled hs, runEvent, close]
  case present =>
    intro req hs hp
    rw [step_scheduled hs, runEvent, present_free (s := { s with sched := rest }) req hp]

/-- Settles O50: the choice is seen only by a read attempt, and a read attempt that can end does not look at it. -/
theorem timeoutOnlyWhenNothingArrived : Obligations.TimeoutOnlyWhenNothingArrived :=
  fun _ h => blockStep_elapsed_irrelevant h

end Sys2Proof.Machine
end

section
/-! PROOFS. Requests as bytes (spec/30_encoding.md): what the decoder reads of each request of R85, when it answers
ILLEGAL (R87), and that it and the encoder undo each other. -/

namespace Sys2Proof

/-! ## Operand fields (R85) -/

theorem n16_toNat (lo hi : Byte) : (n16 lo hi).toNat = lo.toNat + 256 * hi.toNat := by
  have hlo := lo.isLt
  have hhi := hi.isLt
  rw [n16, BitVec.toNat_ofNat, Nat.mod_eq_of_lt (by omega)]

/-- The two bytes of a field are read back as its value. -/
theorem n16_n16Bytes (v : Word16) :
    n16 (BitVec.ofNat 8 (v.toNat % 256)) (BitVec.ofNat 8 (v.toNat / 256)) = v := by
  have hv := v.isLt
  apply BitVec.eq_of_toNat_eq
  rw [n16_toNat, BitVec.toNat_ofNat, BitVec.toNat_ofNat]
  omega

/-- A field's value is written as the bytes that it was read from. -/
theorem n16Bytes_n16 (lo hi : Byte) : n16Bytes (n16 lo hi) = [lo, hi] := by
  have hlo := lo.isLt
  have hhi := hi.isLt
  have hlow : (lo.toNat + 256 * hi.toNat) % 256 = lo.toNat := by omega
  have hhigh : (lo.toNat + 256 * hi.toNat) / 256 = hi.toNat := by omega
  rw [n16Bytes, n16_toNat, hlow, hhigh, BitVec.ofNat_toNat, BitVec.ofNat_toNat, BitVec.setWidth_eq, BitVec.setWidth_eq]

theorem n16Bytes_injective : Function.Injective n16Bytes := by
  intro v w h
  obtain ⟨hlow, hhigh⟩ : _ ∧ _ := by simpa [n16Bytes] using h
  rw [← n16_n16Bytes v, ← n16_n16Bytes w, hlow, hhigh]

theorem countByte_toNat {bs : List Byte} (h : fitsU8 bs = true) : (countByte bs).toNat = bs.length := by
  have hlen : bs.length ≤ 255 := by simpa [fitsU8] using h
  rw [countByte, BitVec.toNat_ofNat, Nat.mod_eq_of_lt (by omega)]

theorem countWord_toNat {bs : List Byte} (h : fitsN16 bs = true) : (countWord bs).toNat = bs.length := by
  have hlen : bs.length ≤ 65535 := by simpa [fitsN16] using h
  rw [countWord, BitVec.toNat_ofNat, Nat.mod_eq_of_lt (by omega)]

theorem countByte_of_length {bs : List Byte} {len : Byte} (h : bs.length = len.toNat) : countByte bs = len := by
  rw [countByte, h, BitVec.ofNat_toNat, BitVec.setWidth_eq]

theorem countWord_of_length {bs : List Byte} {len : Word16} (h : bs.length = len.toNat) : countWord bs = len := by
  rw [countWord, h, BitVec.ofNat_toNat, BitVec.setWidth_eq]

/-! ## The requests of R85 -/

/-- An instruction of the eight operations of R85: neither ILLEGAL nor a wire command. -/
def Instr.isRequest : Instr → Bool
  | .crc16 _ => true
  | .encode _ _ => true
  | .vhdr _ _ _ => true
  | .send _ => true
  | .read _ => true
  | .ack => true
  | .xread _ _ => true
  | .xack _ => true
  | _ => false

/-! ## The decoder, one operation at a time: what was read is written back -/

section Read

variable {body : List Byte} {i : Instr}

theorem decodeCrc16_some (h : decodeCrc16 body = some i) : i.isRequest = true ∧ encode i = 0x01 :: body := by
  match body with
  | [] | [_] => cases h
  | lo :: hi :: data =>
    obtain ⟨hlen, rfl⟩ : data.length = (n16 lo hi).toNat ∧ Instr.crc16 data = i := by simpa [decodeCrc16] using h
    exact ⟨rfl, by rw [encode, countWord_of_length hlen, n16Bytes_n16]; rfl⟩

theorem decodeEncode_some (h : decodeEncode body = some i) : i.isRequest = true ∧ encode i = 0x02 :: body := by
  match body with
  | [] | [_] => cases h
  | xid :: len :: cmd =>
    obtain ⟨hlen, rfl⟩ : cmd.length = len.toNat ∧ Instr.encode xid cmd = i := by simpa [decodeEncode] using h
    exact ⟨rfl, by rw [encode, countByte_of_length hlen]⟩

theorem decodeVhdr_some (h : decodeVhdr body = some i) : i.isRequest = true ∧ encode i = 0x03 :: body := by
  unfold decodeVhdr at h
  split at h <;> cases h
  exact ⟨rfl, rfl⟩

theorem decodeSend_some (h : decodeSend body = some i) : i.isRequest = true ∧ encode i = 0x04 :: body := by
  match body with
  | [] => cases h
  | len :: cmd =>
    obtain ⟨hlen, rfl⟩ : cmd.length = len.toNat ∧ Instr.send cmd = i := by simpa [decodeSend] using h
    exact ⟨rfl, by rw [encode, encodeSend, countByte_of_length hlen]⟩

theorem decodeRead_some (h : decodeRead body = some i) : i.isRequest = true ∧ encode i = 0x05 :: body := by
  unfold decodeRead at h
  split at h <;> cases h
  exact ⟨rfl, by rw [encode, n16Bytes_n16]⟩

theorem decodeAck_some (h : decodeAck body = some i) : i.isRequest = true ∧ encode i = 0x06 :: body := by
  unfold decodeAck at h
  split at h <;> cases h
  exact ⟨rfl, rfl⟩

theorem decodeXread_some (h : decodeXread body = some i) : i.isRequest = true ∧ encode i = 0x07 :: body := by
  match body with
  | [] | [_] | [_, _] => cases h
  | lo :: hi :: len :: cmd =>
    obtain ⟨hlen, rfl⟩ : cmd.length = len.toNat ∧ Instr.xread (n16 lo hi) cmd = i := by simpa [decodeXread] using h
    exact ⟨rfl, by rw [encode, encodeXread, countByte_of_length hlen, n16Bytes_n16]; rfl⟩

theorem decodeXack_some (h : decodeXack body = some i) : i.isRequest = true ∧ encode i = 0x08 :: body := by
  match body with
  | [] => cases h
  | len :: cmd =>
    obtain ⟨hlen, rfl⟩ : cmd.length = len.toNat ∧ Instr.xack cmd = i := by simpa [decodeXack] using h
    exact ⟨rfl, by rw [encode, encodeXack, countByte_of_length hlen]⟩

end Read

/-! ## The decoder, one operation at a time: what was written is read back -/

section Written

variable (xid : Byte) (n : Word16) {bs : List Byte}

theorem decodeCrc16_countWord (h : fitsN16 bs = true) :
    decodeCrc16 (n16Bytes (countWord bs) ++ bs) = some (.crc16 bs) := by
  simp only [n16Bytes, List.cons_append, List.nil_append, decodeCrc16, n16_n16Bytes]
  rw [countWord_toNat h, if_pos rfl]

theorem decodeEncode_countByte (h : fitsU8 bs = true) :
    decodeEncode (xid :: countByte bs :: bs) = some (.encode xid bs) := by
  simp only [decodeEncode, countByte_toNat h, if_true]

theorem decodeSend_countByte (h : fitsU8 bs = true) : decodeSend (countByte bs :: bs) = some (.send bs) := by
  simp only [decodeSend, countByte_toNat h, if_true]

theorem decodeRead_n16Bytes : decodeRead (n16Bytes n) = some (.read n) := by
  simp only [n16Bytes, decodeRead, n16_n16Bytes]

theorem decodeXread_countByte (h : fitsU8 bs = true) :
    decodeXread (n16Bytes n ++ countByte bs :: bs) = some (.xread n bs) := by
  simp only [n16Bytes, List.cons_append, List.nil_append, decodeXread, n16_n16Bytes, countByte_toNat h, if_true]

theorem decodeXack_countByte (h : fitsU8 bs = true) : decodeXack (countByte bs :: bs) = some (.xack bs) := by
  simp only [decodeXack, countByte_toNat h, if_true]

end Written

/-! ## The decoder, one operation at a time: nothing is read exactly when the length is malformed (R87, R91) -/

section Malformed

variable (body : List Byte)

theorem decodeCrc16_none_iff :
    decodeCrc16 body = none ↔ requestLength (0x01 :: body) ≠ some (0x01 :: body : List Byte).length := by
  match body with
  | [] | [_] => simp [decodeCrc16, requestLength]
  | lo :: hi :: data => simp [decodeCrc16, requestLength]; omega

theorem decodeEncode_none_iff :
    decodeEncode body = none ↔ requestLength (0x02 :: body) ≠ some (0x02 :: body : List Byte).length := by
  match body with
  | [] | [_] => simp [decodeEncode, requestLength]
  | xid :: len :: cmd => simp [decodeEncode, requestLength]; omega

theorem decodeVhdr_none_iff :
    decodeVhdr body = none ↔ requestLength (0x03 :: body) ≠ some (0x03 :: body : List Byte).length := by
  unfold decodeVhdr
  split
  · simp [requestLength]
  · next hne =>
    have hlen : body.length ≠ 7 := by
      intro h
      match body with
      | [a, b, c, d, e, f, g] => exact hne _ _ _ _ _ _ _ rfl
    simp [requestLength]; omega

theorem decodeSend_none_iff :
    decodeSend body = none ↔ requestLength (0x04 :: body) ≠ some (0x04 :: body : List Byte).length := by
  match body with
  | [] => simp [decodeSend, requestLength]
  | len :: cmd => simp [decodeSend, requestLength]; omega

theorem decodeRead_none_iff :
    decodeRead body = none ↔ requestLength (0x05 :: body) ≠ some (0x05 :: body : List Byte).length := by
  match body with
  | [] | [_] | [_, _] | _ :: _ :: _ :: _ => simp [decodeRead, requestLength]

theorem decodeAck_none_iff :
    decodeAck body = none ↔ requestLength (0x06 :: body) ≠ some (0x06 :: body : List Byte).length := by
  match body with
  | [] | _ :: _ => simp [decodeAck, requestLength]

theorem decodeXread_none_iff :
    decodeXread body = none ↔ requestLength (0x07 :: body) ≠ some (0x07 :: body : List Byte).length := by
  match body with
  | [] | [_] | [_, _] => simp [decodeXread, requestLength]
  | lo :: hi :: len :: cmd => simp [decodeXread, requestLength]; omega

theorem decodeXack_none_iff :
    decodeXack body = none ↔ requestLength (0x08 :: body) ≠ some (0x08 :: body : List Byte).length := by
  match body with
  | [] => simp [decodeXack, requestLength]
  | len :: cmd => simp [decodeXack, requestLength]; omega

end Malformed

/-! ## The decoder on any OPC (R86, R87) -/

/-- R86: an OPC is one of eight, or reserved. -/
theorem opcode_cases {P : Byte → Prop} (crc16 : P 0x01) (encode : P 0x02) (vhdr : P 0x03) (send : P 0x04)
    (read : P 0x05) (ack : P 0x06) (xread : P 0x07) (xack : P 0x08)
    (reserved : ∀ opc : Byte, opc.toNat = 0 ∨ 8 < opc.toNat → P opc) (opc : Byte) : P opc := by
  by_cases hres : opc.toNat = 0 ∨ 8 < opc.toNat
  · exact reserved opc hres
  · have hopc : opc = BitVec.ofNat 8 opc.toNat := by simp
    have hrange : opc.toNat ∈ [1, 2, 3, 4, 5, 6, 7, 8] := by simp; omega
    generalize opc.toNat = n at hopc hrange
    subst hopc
    fin_cases hrange <;> assumption

theorem decodeBody_reserved {opc : Byte} (body : List Byte) (h : opc.toNat = 0 ∨ 8 < opc.toNat) :
    decodeBody opc body = none := by
  unfold decodeBody
  split
  case h_9 => rfl
  all_goals omega

theorem requestLength_reserved {opc : Byte} (body : List Byte) (h : opc.toNat = 0 ∨ 8 < opc.toNat) :
    requestLength (opc :: body) = none := by
  unfold requestLength
  dsimp only
  split
  case h_9 => rfl
  all_goals omega

/-- What was read is an operation of R85, and is written back. -/
theorem decodeBody_some {opc : Byte} {body : List Byte} {i : Instr} (h : decodeBody opc body = some i) :
    i.isRequest = true ∧ encode i = opc :: body := by
  induction opc using opcode_cases with
  | crc16 => exact decodeCrc16_some h
  | encode => exact decodeEncode_some h
  | vhdr => exact decodeVhdr_some h
  | send => exact decodeSend_some h
  | read => exact decodeRead_some h
  | ack => exact decodeAck_some h
  | xread => exact decodeXread_some h
  | xack => exact decodeXack_some h
  | reserved opc hres => cases (decodeBody_reserved body hres).symm.trans h

/-- R87: nothing is read exactly when the OPC is reserved or the length malformed. -/
theorem decodeBody_none_iff (opc : Byte) (body : List Byte) :
    decodeBody opc body = none ↔ requestLength (opc :: body) ≠ some (opc :: body).length := by
  induction opc using opcode_cases with
  | crc16 => exact decodeCrc16_none_iff body
  | encode => exact decodeEncode_none_iff body
  | vhdr => exact decodeVhdr_none_iff body
  | send => exact decodeSend_none_iff body
  | read => exact decodeRead_none_iff body
  | ack => exact decodeAck_none_iff body
  | xread => exact decodeXread_none_iff body
  | xack => exact decodeXack_none_iff body
  | reserved opc hres => simp [decodeBody_reserved body hres, requestLength_reserved body hres]

/-! ## The decoder on any bytes (R85, R87) -/

theorem decode_of_decodeBody {opc : Byte} {body : List Byte} {i : Instr} (h : decodeBody opc body = some i) :
    decode (opc :: body) = i := by
  rw [decode, h, Option.getD_some]

/-- A request is ILLEGAL or an operation of R85, and its bytes are those of what it decodes to. -/
theorem decode_cases (req : List Byte) :
    (requestLength req ≠ some req.length ∧ decode req = .illegal req)
      ∨ (requestLength req = some req.length ∧ (decode req).isRequest = true ∧ encode (decode req) = req) := by
  match req with
  | [] => exact .inl ⟨by simp [requestLength], rfl⟩
  | opc :: body =>
    have hnone := decodeBody_none_iff opc body
    cases hb : decodeBody opc body with
    | none => exact .inl ⟨hnone.mp hb, by simp [decode, hb]⟩
    | some i =>
      have hlen : requestLength (opc :: body) = some (opc :: body).length := by simpa [hb] using hnone
      exact .inr ⟨hlen, (decode_of_decodeBody hb).symm ▸ decodeBody_some hb⟩

/-- R87: exactly the malformed requests decode to ILLEGAL. -/
theorem decode_eq_illegal_iff (req : List Byte) :
    decode req = .illegal req ↔ requestLength req ≠ some req.length := by
  rcases decode_cases req with ⟨hlen, hdecode⟩ | ⟨hlen, hrequest, -⟩
  · exact iff_of_true hdecode hlen
  · refine iff_of_false (fun hdecode => ?_) (not_not_intro hlen)
    rw [hdecode] at hrequest
    cases hrequest

theorem encode_decode (req : List Byte) : encode (decode req) = req := by
  rcases decode_cases req with ⟨-, hdecode⟩ | ⟨-, -, hencode⟩
  · rw [hdecode, encode]
  · exact hencode

/-- R85: an operation whose lists fit their count fields is read back from its bytes. -/
theorem decode_encode_of_isRequest {i : Instr} (hrequest : i.isRequest = true) (hwf : i.wellFormed = true) :
    decode (encode i) = i := by
  cases i with
  | crc16 data => exact decode_of_decodeBody (decodeCrc16_countWord hwf)
  | encode xid cmd => exact decode_of_decodeBody (decodeEncode_countByte xid hwf)
  | vhdr xid op hdr => rfl
  | send cmd => exact decode_of_decodeBody (decodeSend_countByte hwf)
  | read n => exact decode_of_decodeBody (decodeRead_n16Bytes n)
  | ack => rfl
  | xread n cmd => exact decode_of_decodeBody (decodeXread_countByte n hwf)
  | xack cmd => exact decode_of_decodeBody (decodeXack_countByte hwf)
  | _ => cases hrequest

/-! ## Wire commands (R90, R195) -/

/-- Of the instructions, only a wire command has command bytes. -/
theorem expand_eq_self {i : Instr} (h : i.command? = none) : i.expand = i := by
  cases i with
  | crc16 | encode | vhdr | send | read | ack | xread | xack | illegal => rfl
  | _ => cases h

/-- R90, R195: a wire command stands for the request that carries its bytes. -/
theorem expand_of_command {i : Instr} {shape : Shape} {cmd : List Byte} (h : i.command? = some (shape, cmd)) :
    i.expand = carried shape cmd := by
  cases i with
  | crc16 | encode | vhdr | send | read | ack | xread | xack | illegal => cases h
  | _ => cases h; rfl

/-- R89: a wire command is written as the request that carries its bytes. -/
theorem encode_of_command {i : Instr} {shape : Shape} {cmd : List Byte} (h : i.command? = some (shape, cmd)) :
    encode i = encodeCarried shape cmd := by
  cases i with
  | crc16 | encode | vhdr | send | read | ack | xread | xack | illegal => cases h
  | _ => cases h; rfl

/-- R85: the arguments fit beside the opcode exactly when the command's bytes fit their count field. -/
theorem argsFit_eq_fitsU8 (op : Byte) (args : List Byte) : argsFit args = fitsU8 (op :: args) := by
  simp only [argsFit, fitsU8, List.length_cons, decide_eq_decide]
  omega

/-- R85: the arguments of a wire command fit exactly when its bytes fit the count field of its request. -/
theorem wellFormed_of_command {i : Instr} {shape : Shape} {cmd : List Byte} (h : i.command? = some (shape, cmd)) :
    i.wellFormed = fitsU8 cmd := by
  cases i with
  | crc16 | encode | vhdr | send | read | ack | xread | xack | illegal => cases h
  | setup | stopStreaming | stopComms => cases h; rfl
  | _ => cases h; exact argsFit_eq_fitsU8 _ _

/-- R195: what carries a command is SEND, XREAD or XACK with that command. -/
theorem carried_isRequest (shape : Shape) (cmd : List Byte) :
    (carried shape cmd).isRequest = true ∧ (carried shape cmd).wellFormed = fitsU8 cmd := by
  cases shape with
  | none | acknowledgement | rawBytes n => exact ⟨rfl, rfl⟩
  | rawBytesScaled perUnit unitCount =>
    unfold carried
    dsimp only
    split
    · exact ⟨rfl, rfl⟩
    · exact ⟨rfl, rfl⟩

/-- R89, R90: the bytes of a well-formed instruction are those of the request it stands for, and decode to it. -/
theorem decode_encode {i : Instr} (hwf : i.wellFormed = true) : decode (encode i) = i.expand := by
  cases hcommand : i.command? with
  | none =>
    rw [expand_eq_self hcommand]
    cases i with
    | crc16 | encode | vhdr | send | read | ack | xread | xack => exact decode_encode_of_isRequest rfl hwf
    | illegal req => exact (decode_eq_illegal_iff req).mpr (by simpa [Instr.wellFormed, isIllegalRequest] using hwf)
    | _ => cases hcommand
  | some command =>
    obtain ⟨shape, cmd⟩ := command
    obtain ⟨hrequest, hfits⟩ := carried_isRequest shape cmd
    rw [encode_of_command hcommand, expand_of_command hcommand, ← Laws.EncodesAsItsExpansion.encode_carried]
    exact decode_encode_of_isRequest hrequest (by rw [hfits, ← wellFormed_of_command hcommand, hwf])

end Sys2Proof

namespace Sys2Proof.Machine

/-! ## The obligations on requests as bytes -/

/-- Settles O41, by the bytes of the request that a wire command stands for. -/
theorem decodeOfEncode : Obligations.DecodeOfEncode := fun _ hwf => decode_encode hwf

/-- Settles O40: the decoder and the length of R91 are compared operation by operation. -/
theorem illegalExactlyWhenMalformed : Obligations.IllegalExactlyWhenMalformed := decode_eq_illegal_iff

/-- Settles O42: what is read of a legal request is written back, and an illegal one is kept whole. -/
theorem encodeOfDecode : Obligations.EncodeOfDecode := encode_decode

/-- Settles O44, by evaluation. -/
theorem writtenRequestsDecode : Obligations.WrittenRequestsDecode := by
  unfold Obligations.WrittenRequestsDecode
  decide

end Sys2Proof.Machine
end

section
/-! PROOFS. Running requests (spec/30_encoding.md R84, R87, R90): which instruction a step runs, that a wire command
does what its request does, and that a busy block holds the next request. -/

namespace Sys2Proof

/-! ## Table words (log entry 8) -/

theorem tableBytes_length (nbits w : Nat) : (tableBytes nbits w).length = (nbits + 7) / 8 := by
  simp [tableBytes]

/-- Command bytes that fit a count field spell a well-formed instruction. -/
theorem decodeCommand_wellFormed (shape : Shape) {cmd : List Byte} (h : fitsU8 cmd = true) :
    (decodeCommand shape cmd).wellFormed = true := by
  match cmd with
  | [] => rfl
  | op :: args =>
    have hcarried : (carried shape (op :: args)).wellFormed = true := (carried_isRequest shape _).2.trans h
    have hargs : argsFit args = true := (argsFit_eq_fitsU8 op args).trans h
    unfold decodeCommand
    dsimp only
    split
    case h_1 | h_2 | h_3 =>
      split
      · rfl
      · exact hcarried
    case h_37 => exact hcarried
    all_goals exact hargs

end Sys2Proof

namespace Sys2Proof.Machine

/-! ## What a wire command runs -/

/-- R190, R195: a wire command is served by the operation of its shape. -/
theorem exec_of_command {i : Instr} {shape : Shape} {cmd : List Byte} (h : i.command? = some (shape, cmd)) (s : State) :
    exec i s = .next (serveCommand shape cmd s) := by
  cases i with
  | crc16 | encode | vhdr | send | read | ack | xread | xack | illegal => cases h
  | _ => cases h; rfl

/-- R195, R196: the operation of a shape is the accept step of the request that carries it. -/
theorem exec_carried (shape : Shape) (cmd : List Byte) (s : State) :
    exec (carried shape cmd) s = .next (serveCommand shape cmd s) := by
  cases shape with
  | none | acknowledgement | rawBytes n => rfl
  | rawBytesScaled perUnit unitCount =>
    unfold carried serveCommand
    dsimp only
    split
    · rfl
    · rfl

/-- R90: an instruction does what the request it stands for does. -/
theorem exec_expand (i : Instr) (s : State) : exec i.expand s = exec i s := by
  cases hcommand : i.command? with
  | none => rw [expand_eq_self hcommand]
  | some command =>
    obtain ⟨shape, cmd⟩ := command
    rw [expand_of_command hcommand, exec_carried, exec_of_command hcommand]

/-- R84, R89: the bytes of a well-formed instruction, decoded, do what the instruction does. -/
theorem exec_decode_encode {i : Instr} (hwf : i.wellFormed = true) (s : State) :
    exec (decode (encode i)) s = exec i s := by
  rw [decode_encode hwf, exec_expand]

/-- The request of a table word of at most 255 bytes does what the word's instruction does (log entry 8). -/
theorem exec_tableRequest {nbits w : Nat} {i : Instr} (hbits : nbits ≤ 2040) (hword : decodeTableWord nbits w = some i)
    (s : State) : exec (decode (tableRequest nbits w)) s = exec i s := by
  have hfits : fitsU8 (tableBytes nbits w) = true := by
    simp only [fitsU8, tableBytes_length, decide_eq_true_eq]
    omega
  unfold decodeTableWord at hword
  unfold tableRequest
  dsimp only at hword ⊢
  split at hword
  · next hcommand =>
    cases hword
    rw [if_pos hcommand, exec_decode_encode (decodeCommand_wellFormed .none hfits)]
  · next hrequest =>
    cases hword
    rw [if_neg hrequest]

/-! ## The port while the block is busy (R84, R250) -/

section Port

variable {s t : State}

theorem sendingStep_port (s : State) : (sendingStep s).port = s.port := by
  cases hc : s.closed with
  | true => rw [sendingStep_closed hc, raiseFault_port]
  | false => rw [sendingStep_open hc]

theorem scanMiss_port (s : State) : (scanMiss s).port = s.port := by
  by_cases hlast : s.scanCnt + 1 = Config.scanLimit
  · rw [scanMiss_limit hlast, raiseFault_port]
  · rw [scanMiss_below hlast]

theorem awaitSyncStep_port (e : Bool) (s : State) : (awaitSyncStep e s).port = s.port := by
  refine awaitSyncStep_cases (P := fun t => t.port = s.port) e s ?io ?sync ?other ?timeout ?wait
  case io => exact fun _ => raiseFault_port ..
  case sync => exact fun _ _ _ => rfl
  case other => exact fun _ _ _ _ _ => scanMiss_port _
  case timeout =>
    intro _ _ _
    split
    · exact scanMiss_port s
    · exact raiseFault_port ..
  case wait => exact fun _ _ _ => rfl

theorem takeHeaderByte_port (b : Byte) (s : State) : (takeHeaderByte b s).port = s.port := by
  by_cases hlast : s.hdrCnt + 1 = Config.hdrLen
  · rw [takeHeaderByte_last b hlast]
  · rw [takeHeaderByte_below b hlast]

theorem readHdrStep_port (e : Bool) (s : State) : (readHdrStep e s).port = s.port := by
  refine readHdrStep_cases (P := fun t => t.port = s.port) e s ?io ?byte ?timeout ?wait
  case io => exact fun _ => raiseFault_port ..
  case byte => exact fun b _ _ _ => takeHeaderByte_port b _
  case timeout => exact fun _ _ _ => raiseFault_port ..
  case wait => exact fun _ _ _ => rfl

theorem startRead_port (n : Word16) (s : State) : (startRead n s).port = s.port := by
  by_cases hn : n = 0
  · rw [hn, startRead_zero, finishOk_port]
  · rw [startRead_pos s hn]

theorem validatedStep_port (s : State) : (validatedStep s).port = s.port := by
  refine validatedStep_cases (P := fun t => t.port = s.port) s ?mismatch ?done ?read ?ack
  case mismatch => exact fun _ => raiseFault_port ..
  case done => exact fun _ => finishOk_port ..
  case read => exact fun n _ => startRead_port n _
  case ack => exact fun _ => startAck_port _

theorem takeFixedByte_port (b : Byte) (s : State) : (takeFixedByte b s).port = s.port := by
  by_cases hlast : s.rdCnt + 1 = s.rdN
  · rw [takeFixedByte_last b hlast, finishOk_port]
  · rw [takeFixedByte_below b hlast]

theorem readFixedStep_port (e : Bool) (s : State) : (readFixedStep e s).port = s.port := by
  refine readFixedStep_cases (P := fun t => t.port = s.port) e s ?io ?byte ?timeout ?wait
  case io => exact fun _ => raiseFault_port ..
  case byte => exact fun b _ _ _ => takeFixedByte_port b _
  case timeout => exact fun _ _ _ => raiseFault_port ..
  case wait => exact fun _ _ _ => rfl

theorem takeAckByte_port (b : Byte) (s : State) : (takeAckByte b s).port = s.port := by
  by_cases hlast : s.ackCnt + 1 = Config.ackLen
  · rw [takeAckByte_last b hlast]
    split
    · exact finishOk_port ..
    · exact raiseFault_port ..
  · rw [takeAckByte_below b hlast]

theorem shortAck_port (s : State) : (shortAck s).port = s.port := by
  unfold shortAck
  split
  · exact raiseFault_port ..
  · exact raiseFault_port ..

theorem readAckStep_port (e : Bool) (s : State) : (readAckStep e s).port = s.port := by
  refine readAckStep_cases (P := fun t => t.port = s.port) e s ?io ?byte ?timeout ?wait
  case io => exact fun _ => raiseFault_port ..
  case byte => exact fun b _ _ _ => takeAckByte_port b _
  case timeout => exact fun _ _ _ => shortAck_port s
  case wait => exact fun _ _ _ => rfl

/-- R250: only `IDLE` takes a request from the port. -/
theorem blockStep_port {e : Bool} (hbusy : s.st ≠ .idle) (hstep : blockStep e s = .next t) : t.port = s.port := by
  refine blockStep_cases (P := fun t => t.port = s.port) hstep ?idle ?accept ?sending ?scan ?header ?validated ?fixed
    ?ack
  case idle => exact fun hidle => absurd hidle hbusy
  case accept => exact fun _ hidle => absurd hidle hbusy
  case sending => exact fun _ => sendingStep_port s
  case scan => exact fun _ => awaitSyncStep_port e s
  case header => exact fun _ => readHdrStep_port e s
  case validated => exact fun _ => validatedStep_port s
  case fixed => exact fun _ => readFixedStep_port e s
  case ack => exact fun _ => readAckStep_port e s

theorem arrive_port (b : Byte) (s : State) : (arrive b s).port = s.port := by
  cases hc : s.closed with
  | true => rw [arrive_closed b hc]
  | false => rw [arrive_open b hc]

/-- R84, R250: no agent takes a held request from a busy block (log entry 11 for the host and the reset line). -/
theorem runEvent_port {e : Event} {req : List Byte} (hbusy : s.st ≠ .idle) (hport : s.port = some req)
    (hrun : runEvent e s = .next t) : t.port = s.port := by
  cases e with
  | arrive b => cases hrun; exact arrive_port b s
  | close => cases hrun; exact close_port s
  | present other => cases hrun; rw [present_held other hport]
  | reset => cases hrun; exact resetLine_port s
  | block elapsed => exact blockStep_port hbusy hrun

end Port

/-! ## The obligations on running requests -/

/-- Settles O48, by what each agent's move does to the port. -/
theorem busyBlockHoldsTheRequest : Obligations.BusyBlockHoldsTheRequest := by
  intro s t req hbusy hport hstep
  cases hs : s.sched with
  | nil =>
    rw [step_unscheduled hs] at hstep
    exact (blockStep_port hbusy hstep).trans hport
  | cons e rest =>
    rw [step_scheduled hs] at hstep
    have hkept := runEvent_port (s := { s with sched := rest }) hbusy hport hstep
    exact hkept.trans hport

/-- Settles O38, by the request that a wire command's bytes go by. -/
theorem wireCommandsRunAsTheirRequests : Obligations.WireCommandsRunAsTheirRequests :=
  fun i s => (exec_expand i s).symm

/-- Settles O39: ILLEGAL is the one fault that it raises. -/
theorem illegalCompletes : Obligations.IllegalCompletes := fun _ _ => rfl

/-- Settles O45: a CMD row's request decodes to what its command stands for, and a REQ row's is the one decoded. -/
theorem tableWordIsFetchedAndRun : Obligations.TableWordIsFetchedAndRun := by
  intro s nbits w i hbits hword
  rw [step_unscheduled (s := s.withFetchWord nbits w) rfl,
    blockStep_accepts (s := s.withFetchWord nbits w) true rfl rfl, exec_tableRequest hbits hword]
  rfl

/-- Settles O46, with the block alone and with a scheduled step of the block. -/
theorem stepRunsTheDecodedRequest : Obligations.StepRunsTheDecodedRequest := by
  intro s req hidle hport
  constructor
  · intro hs
    rw [step_unscheduled hs, blockStep_accepts true hidle hport]
  · intro e rest hs
    rw [step_scheduled hs, runEvent, blockStep_accepts (s := { s with sched := rest }) e hidle hport]

end Sys2Proof.Machine
end

section
/-! PROOFS. Frames and responses as bytes (spec/41_codec.md R70 to R82, spec/30_encoding.md R88): every byte of each,
and that the bytes determine what they stand for. -/

namespace Sys2Proof.Machine

/-! ## The bytes of a word (R57) -/

theorem lowByte_eq (v : Word16) : lowByte v = BitVec.ofNat 8 (v.toNat % 256) := by
  apply BitVec.eq_of_toNat_eq
  simp [lowByte]

theorem highByte_eq (v : Word16) : highByte v = BitVec.ofNat 8 (v.toNat / 256) := by
  apply BitVec.eq_of_toNat_eq
  simp [highByte, Nat.shiftRight_eq_div_pow]

/-- R85: an `n16` field is the low byte and then the high byte. -/
theorem n16Bytes_eq (v : Word16) : n16Bytes v = [lowByte v, highByte v] := by
  rw [n16Bytes, lowByte_eq, highByte_eq]

/-- R88: the length field of a byte sequence, any length taken modulo 65536. -/
theorem n16Bytes_countWord (bs : List Byte) :
    n16Bytes (countWord bs) = [BitVec.ofNat 8 bs.length, BitVec.ofNat 8 (bs.length / 256)] := by
  have hlow : BitVec.ofNat 8 (bs.length % 65536 % 256) = BitVec.ofNat 8 bs.length := by
    apply BitVec.eq_of_toNat_eq
    simp only [BitVec.toNat_ofNat]
    omega
  have hhigh : BitVec.ofNat 8 (bs.length % 65536 / 256) = BitVec.ofNat 8 (bs.length / 256) := by
    apply BitVec.eq_of_toNat_eq
    simp only [BitVec.toNat_ofNat]
    omega
  rw [n16Bytes, countWord, BitVec.toNat_ofNat, ← hlow, ← hhigh]

/-! ## Frames -/

/-- R70: the bytes of a frame before its command. -/
theorem encodeFrame_head (p : Params) (x : Byte) (cmd : List Byte) {k : Nat} (h : k < 4) :
    (encodeFrame p x cmd)[k]? = [p.syncA, p.syncB, lengthByte cmd, x][k]? := by
  simp only [encodeFrame, List.append_assoc]
  exact List.getElem?_append_left h

/-- R70: the command's bytes stand unchanged in the frame. -/
theorem encodeFrame_command (p : Params) (x : Byte) (cmd : List Byte) {k : Nat} (h : k < cmd.length) :
    (encodeFrame p x cmd)[4 + k]? = cmd[k]? := by
  have hrest : (encodeFrame p x cmd).drop 4 =
      cmd ++ [lowByte (crc16 (x :: cmd)), highByte (crc16 (x :: cmd)), p.syncA, p.syncB] := by simp [encodeFrame]
  rw [← List.getElem?_drop, hrest, List.getElem?_append_left h]

/-- R70: the bytes of a frame after its command. -/
theorem encodeFrame_tail (p : Params) (x : Byte) (cmd : List Byte) (k : Nat) :
    (encodeFrame p x cmd)[cmd.length + 4 + k]? =
      [lowByte (crc16 (x :: cmd)), highByte (crc16 (x :: cmd)), p.syncA, p.syncB][k]? := by
  rw [← List.getElem?_drop, encodeFrame_trailer]

/-- R70, R79: the part that the checksum covers gives the id and the command back. -/
theorem encodeFrame_injective {p : Params} {x y : Byte} {c d : List Byte} (h : encodeFrame p x c = encodeFrame p y d) :
    x = y ∧ c = d := by
  have hlen : c.length = d.length := by simpa using congrArg List.length h
  have hcovered : x :: c = y :: d := by
    rw [← encodeFrame_covered p x c, ← encodeFrame_covered p y d, h, hlen]
  exact List.cons.inj hcovered

/-! ## The first two bytes of a response (R88, R210) -/

/-- The status with a 4-bit code of R210; the reserved codes are read as OK. -/
def statusOfCode (c : BitVec 4) : Status :=
  match c.toNat with
  | 0x1 => .argTooLong
  | 0x2 => .argEmpty
  | 0x3 => .timeout
  | 0x4 => .headerMismatch
  | 0x5 => .ackInvalid
  | 0x6 => .ioError
  | 0x7 => .illegalOp
  | _ => .ok

theorem statusOfCode_statusCode (status : Status) : statusOfCode (statusCode status) = status := by
  cases status <;> rfl

/-- R210: no two statuses have one code. -/
theorem statusCode_injective : Function.Injective statusCode := Function.LeftInverse.injective statusOfCode_statusCode

/-- R88: the three fields of byte 0 do not overlap. -/
theorem statusByte_toNat (r : Result) :
    (statusByte r).toNat = (statusCode r.status).toNat + 16 * r.sub.toNat + 64 * r.ropV.toNat := by
  have hstatus := (statusCode r.status).isLt
  have hsub := r.sub.isLt
  have hrop := r.ropV.toNat_le
  rw [statusByte, BitVec.toNat_ofNat]
  omega

theorem statusByte_status (r : Result) : (statusByte r).extractLsb' 0 4 = statusCode r.status := by
  have hstatus := (statusCode r.status).isLt
  apply BitVec.eq_of_toNat_eq
  rw [BitVec.extractLsb'_toNat, statusByte_toNat, Nat.shiftRight_eq_div_pow]
  omega

theorem statusByte_sub (r : Result) : (statusByte r).extractLsb' 4 2 = r.sub := by
  have hstatus := (statusCode r.status).isLt
  have hsub := r.sub.isLt
  apply BitVec.eq_of_toNat_eq
  rw [BitVec.extractLsb'_toNat, statusByte_toNat, Nat.shiftRight_eq_div_pow]
  omega

theorem statusByte_ropV (r : Result) : (statusByte r).getLsbD 6 = r.ropV := by
  have hstatus := (statusCode r.status).isLt
  have hsub := r.sub.isLt
  rw [BitVec.getLsbD, statusByte_toNat, Nat.testBit_eq_decide_div_mod_eq]
  cases r.ropV
  · simp only [Bool.toNat_false, decide_eq_false_iff_not]; omega
  · simp only [Bool.toNat_true, decide_eq_true_eq]; omega

theorem statusByte_bit7 (r : Result) : (statusByte r).getLsbD 7 = false := by
  have hstatus := (statusCode r.status).isLt
  have hsub := r.sub.isLt
  have hrop := r.ropV.toNat_le
  rw [BitVec.getLsbD, statusByte_toNat, Nat.testBit_eq_decide_div_mod_eq, decide_eq_false_iff_not]
  omega

/-- R88: byte 0 gives the status, the sub-cause and the valid bit of the opcode back. -/
theorem statusByte_fields {r q : Result} (h : statusByte r = statusByte q) :
    r.status = q.status ∧ r.sub = q.sub ∧ r.ropV = q.ropV := by
  refine ⟨statusCode_injective ?_, ?_, ?_⟩
  · rw [← statusByte_status, ← statusByte_status, h]
  · rw [← statusByte_sub, ← statusByte_sub, h]
  · rw [← statusByte_ropV, ← statusByte_ropV, h]

/-- R88: bits 4:0 of byte 1 are the mask. -/
theorem maskByte_mask (mask : BitVec 5) : (mask.zeroExtend 8).extractLsb' 0 5 = mask := by
  have hmask := mask.isLt
  apply BitVec.eq_of_toNat_eq
  rw [BitVec.extractLsb'_toNat, BitVec.toNat_setWidth, Nat.shiftRight_eq_div_pow]
  omega

/-- R88: bits 7:5 of byte 1 are 0. -/
theorem maskByte_high (mask : BitVec 5) : (mask.zeroExtend 8).extractLsb' 5 3 = 0x0#3 := by
  have hmask := mask.isLt
  apply BitVec.eq_of_toNat_eq
  rw [BitVec.extractLsb'_toNat, BitVec.toNat_setWidth, Nat.shiftRight_eq_div_pow]
  simp only [BitVec.toNat_ofNat]
  omega

/-! ## The value of a response (R88) -/

/-- R27: two values of one form: both none, both a word, or both a byte sequence that its length field can count. -/
def SameForm (a b : Value) : Prop :=
  (a = .none ∧ b = .none) ∨ (∃ v w, a = .u16 v ∧ b = .u16 w)
    ∨ (∃ bs cs, a = .bytes bs ∧ b = .bytes cs ∧ bs.length ≤ 65535 ∧ cs.length ≤ 65535)

theorem valueBytes_injective_of_sameForm {a b : Value} (hform : SameForm a b) (h : valueBytes a = valueBytes b) :
    a = b := by
  obtain ⟨rfl, rfl⟩ | ⟨v, w, rfl, rfl⟩ | ⟨bs, cs, rfl, rfl, -, -⟩ := hform
  · rfl
  · exact congrArg Value.u16 (n16Bytes_injective h)
  · exact congrArg Value.bytes (List.append_inj_right h rfl)

/-! ## Responses (R88) -/

/-- R88: the bytes of a response, as O59 writes them out. -/
theorem responseBytes_fields (r : Result) :
    responseBytes r =
      statusByte r :: r.mask.zeroExtend 8 :: r.rxid :: (if r.ropV = true then r.rop else 0) :: valueBytes r.value := rfl

/-- R88: the bytes give the record back, where what they leave out is fixed. -/
theorem responseBytes_injective_of_sameForm {r q : Result} (hvalid : r.valid = q.valid)
    (hr : r.ropV = false → r.rop = 0) (hq : q.ropV = false → q.rop = 0) (hform : SameForm r.value q.value)
    (h : responseBytes r = responseBytes q) : r = q := by
  rw [responseBytes_fields, responseBytes_fields] at h
  obtain ⟨h0, h1, hrxid, hropByte, hvalue⟩ :
      statusByte r = statusByte q ∧ r.mask.zeroExtend 8 = q.mask.zeroExtend 8 ∧ r.rxid = q.rxid
        ∧ (if r.ropV = true then r.rop else 0) = (if q.ropV = true then q.rop else 0)
        ∧ valueBytes r.value = valueBytes q.value := by
    simpa only [List.cons.injEq] using h
  obtain ⟨hstatus, hsub, hropV⟩ := statusByte_fields h0
  have hmask : r.mask = q.mask := by rw [← maskByte_mask r.mask, h1, maskByte_mask]
  have hrop : r.rop = q.rop := by
    cases hv : r.ropV with
    | true => simpa [hv, ← hropV] using hropByte
    | false => rw [hr hv, hq (hropV ▸ hv)]
  have hval := valueBytes_injective_of_sameForm hform hvalue
  cases r
  cases q
  simp only [Result.mk.injEq]
  exact ⟨hvalid, hstatus, hsub, hmask, hrxid, hropV, hrop, hval⟩

/-! ## The obligations on frames and responses -/

/-- Settles O7: the bytes before the command, the command, and the bytes after it. -/
theorem frameLayout : Obligations.FrameLayout := by
  intro p x cmd
  have htail := encodeFrame_tail p x cmd
  refine ⟨encodeFrame_length p x cmd, encodeFrame_head p x cmd (k := 0) (by decide),
    encodeFrame_head p x cmd (k := 1) (by decide), encodeFrame_head p x cmd (k := 2) (by decide),
    encodeFrame_head p x cmd (k := 3) (by decide), fun _ => encodeFrame_command p x cmd, ?_, ?_, ?_, ?_⟩
  · rw [← lowByte_eq, show 4 + cmd.length = cmd.length + 4 + 0 by omega, htail]; rfl
  · rw [← highByte_eq, show 5 + cmd.length = cmd.length + 4 + 1 by omega, htail]; rfl
  · rw [show 6 + cmd.length = cmd.length + 4 + 2 by omega, htail]; rfl
  · rw [show 7 + cmd.length = cmd.length + 4 + 3 by omega, htail]; rfl

/-- Settles O8, by the frame's parts that R82 names. -/
theorem encodedFramesAreWellFormed : Obligations.EncodedFramesAreWellFormed :=
  fun p x _ hlen => frameWellFormed_encodeFrame p x hlen

/-- Settles O9: frames of one length cover parts of one length, and these are the id and the command. -/
theorem frameDeterminesIdAndCommand : Obligations.FrameDeterminesIdAndCommand :=
  fun _ _ _ _ _ h => encodeFrame_injective h

/-- Settles O59, by the fields of each byte. -/
theorem responseBytesDetermineTheResponse : Obligations.ResponseBytesDetermineTheResponse := by
  constructor
  · intro r
    refine ⟨statusByte r, r.mask.zeroExtend 8, ?bytes, ?status, statusByte_sub r, statusByte_ropV r,
      statusByte_bit7 r, maskByte_mask r.mask, maskByte_high r.mask⟩
    case bytes =>
      rw [responseBytes_fields]
      cases r.value with
      | none => rfl
      | u16 v => rw [valueBytes, n16Bytes_eq]; rfl
      | bytes bs => rw [valueBytes, n16Bytes_countWord]; rfl
    case status =>
      rw [statusByte_status]
      cases r.status <;> rfl
  · exact fun r q hvalid hr hq hform h => responseBytes_injective_of_sameForm hvalid hr hq hform h

end Sys2Proof.Machine
end

section
/-! PROOFS. The checksum (spec/40_crc.md): the bit step in arithmetic, the linearity of R105 at every level of the
engine, the table form of R106 that follows from it, and the CRC16 operation. -/

namespace Sys2Proof.Machine

/-! ## The bit step (R100) -/

/-- R100: bit 15 is set in the upper half of the 16-bit values. -/
theorem getLsbD_15_eq (c : Word16) : c.getLsbD 15 = decide (0x8000 ≤ c.toNat) := BitVec.msb_eq_decide c

theorem crcBit_set {c : Word16} (h : c.getLsbD 15 = true) : crcBit c = c <<< 1 ^^^ Config.crcPoly := if_pos h

theorem crcBit_clear {c : Word16} (h : c.getLsbD 15 = false) : crcBit c = c <<< 1 := if_neg (ne_true_of_eq_false h)

/-- R100: the bit shifted out of bit 15 is dropped. -/
theorem shiftLeft_one_toNat (c : Word16) : (c <<< 1).toNat = c.toNat * 2 % 0x10000 := by
  simp [Nat.shiftLeft_eq]

/-- R105: the bit step is linear: bit 15 of a sum is the sum of the bits 15, and the polynomial cancels itself. -/
theorem crcBit_xor (c d : Word16) : crcBit (c ^^^ d) = crcBit c ^^^ crcBit d := by
  have hbit : (c ^^^ d).getLsbD 15 = (c.getLsbD 15 ^^ d.getLsbD 15) := BitVec.getLsbD_xor
  cases hc : c.getLsbD 15 <;> cases hd : d.getLsbD 15 <;> rw [hc, hd] at hbit
  case false.false => rw [crcBit_clear hbit, crcBit_clear hc, crcBit_clear hd, BitVec.shiftLeft_xor_distrib]
  case false.true =>
    rw [crcBit_set hbit, crcBit_clear hc, crcBit_set hd, BitVec.shiftLeft_xor_distrib, BitVec.xor_assoc]
  case true.false =>
    rw [crcBit_set hbit, crcBit_set hc, crcBit_clear hd, BitVec.shiftLeft_xor_distrib]
    ac_rfl
  case true.true =>
    have hcancel : (c <<< 1 ^^^ Config.crcPoly) ^^^ (d <<< 1 ^^^ Config.crcPoly)
        = (c <<< 1 ^^^ d <<< 1) ^^^ (Config.crcPoly ^^^ Config.crcPoly) := by ac_rfl
    rw [crcBit_clear hbit, crcBit_set hc, crcBit_set hd, BitVec.shiftLeft_xor_distrib, hcancel, BitVec.xor_self,
      BitVec.xor_zero]

/-! ## Several bit steps (R101) -/

theorem crcBits_eq_iterate (k : Nat) (c : Word16) : crcBits k c = crcBit^[k] c := by
  induction k generalizing c with
  | zero => rfl
  | succ k ih => exact ih (crcBit c)

theorem crcBits_xor (k : Nat) (c d : Word16) : crcBits k (c ^^^ d) = crcBits k c ^^^ crcBits k d := by
  induction k generalizing c d with
  | zero => rfl
  | succ k ih => simp only [crcBits, crcBit_xor, ih]

/-- R100: while only zeros reach bit 15, the bit steps are plain shifts. -/
theorem crcBits_eq_shiftLeft (k : Nat) {c : Word16} (h : c.toNat * 2 ^ k < 2 ^ 16) : crcBits k c = c <<< k := by
  induction k generalizing c with
  | zero => exact (BitVec.shiftLeft_zero c).symm
  | succ k ih =>
    have hsplit : c.toNat * 2 ^ (k + 1) = c.toNat * 2 * 2 ^ k := by ring
    have hdouble : c.toNat * 2 ≤ c.toNat * 2 * 2 ^ k := Nat.le_mul_of_pos_right _ (Nat.two_pow_pos k)
    have hclear : c.getLsbD 15 = false := by
      rw [getLsbD_15_eq, decide_eq_false_iff_not]
      omega
    have hshift : (c <<< 1).toNat = c.toNat * 2 := by
      rw [shiftLeft_one_toNat, Nat.mod_eq_of_lt (by omega)]
    have hrest : (c <<< 1).toNat * 2 ^ k < 2 ^ 16 := by rwa [hshift, ← hsplit]
    calc crcBits (k + 1) c = crcBits k (c <<< 1) := by rw [crcBits, crcBit_clear hclear]
      _ = c <<< 1 <<< k := ih hrest
      _ = c <<< (k + 1) := by rw [← BitVec.shiftLeft_add, Nat.add_comm]

/-! ## The byte step (R101, R106) -/

/-- R101: `zext_16(b) << 8` as a number. -/
theorem highWord_eq_ofNat (b : Byte) : b.zeroExtend 16 <<< 8 = BitVec.ofNat 16 (b.toNat * 256) := by
  have hb := b.isLt
  apply BitVec.eq_of_toNat_eq
  simp [Nat.shiftLeft_eq, Nat.mod_eq_of_lt (show b.toNat < 65536 by omega)]

/-- R101: a byte enters bits 15..8, so of `c` and `b` the engine sees their sum there and `c[7:0]` below. -/
theorem xor_highWord_eq (c : Word16) (b : Byte) :
    c ^^^ b.zeroExtend 16 <<< 8 =
      (lowByte c).zeroExtend 16 ^^^ ((0 : Word16) ^^^ (highByte c ^^^ b).zeroExtend 16 <<< 8) := by
  ext i hi
  by_cases hlow : i < 8
  · simp [lowByte, hlow, BitVec.getLsbD_eq_getElem hi]
  · have hindex : 8 + (i - 8) = i := by omega
    have hlt : i - 8 < 8 := by omega
    simp [lowByte, highByte, hlow, hindex, hlt, BitVec.getLsbD_eq_getElem hi]

/-- R100: the low byte does not reach bit 15 in eight bit steps. -/
theorem crcBits_lowByte (c : Word16) : crcBits 8 ((lowByte c).zeroExtend 16) = c <<< 8 := by
  have hlow := (lowByte c).isLt
  have hfits : ((lowByte c).zeroExtend 16).toNat * 2 ^ 8 < 2 ^ 16 := by
    rw [BitVec.zeroExtend, BitVec.toNat_setWidth]
    omega
  rw [crcBits_eq_shiftLeft 8 hfits]
  ext i hi
  by_cases hi8 : i < 8
  · simp [hi8]
  · have hlt : i - 8 < 8 := by omega
    simp [lowByte, hi8, hlt, BitVec.getLsbD_eq_getElem (show i - 8 < 16 by omega)]

/-- R106: one look-up in the table `crcByte 0` and one shift make the byte step. -/
theorem crcByte_eq_table (c : Word16) (b : Byte) : crcByte c b = c <<< 8 ^^^ crcByte 0 (highByte c ^^^ b) := by
  rw [crcByte, xor_highWord_eq, crcBits_xor, crcBits_lowByte, crcByte]

/-- R105: a byte equal to `c[15:8]` cancels it, and the engine only shifts. -/
theorem crcByte_highByte (c : Word16) : crcByte c (highByte c) = c <<< 8 := by
  have hzero : crcByte 0 0#8 = 0#16 := by decide
  rw [crcByte_eq_table, BitVec.xor_self, hzero, BitVec.xor_zero]

theorem highByte_shiftLeft (c : Word16) : highByte (c <<< 8) = lowByte c := by
  ext i hi
  simp [highByte, lowByte, show 8 + i < 16 by omega, BitVec.getLsbD_eq_getElem (show i < 16 by omega)]

/-- R105: the two bytes of the register, high byte first, clear it. -/
theorem crcByte_highByte_lowByte (c : Word16) : crcByte (crcByte c (highByte c)) (lowByte c) = 0 := by
  rw [crcByte_highByte, ← highByte_shiftLeft, crcByte_highByte, ← BitVec.shiftLeft_add]
  exact BitVec.shiftLeft_eq_zero (le_refl 16)

/-! ## Byte sequences (R102) -/

theorem crc16_append (bs cs : List Byte) : crc16 (bs ++ cs) = cs.foldl crcByte (crc16 bs) := List.foldl_append

/-! ## The result of CRC16 (R103, R149) -/

/-- R149, R218: `finishOk` with the current context delivers one `OK` result in that context. -/
theorem finishOk_eq_delivered (x : Value) (s : State) :
    finishOk s.ctxV x s = delivered (contextResult .ok 0 x s) s := rfl

theorem exec_crc16 (data : List Byte) (s : State) :
    exec (.crc16 data) s = .next (finishOk s.ctxV (.u16 (crc16 data)) (runCrc data s)) := rfl

/-! ## The obligations on the checksum -/

/-- Settles O1, by bit 15. -/
theorem crcBitStepShiftsAndReduces : Obligations.CrcBitStepShiftsAndReduces := by
  intro c
  split
  next h =>
    rw [crcBit_set ((getLsbD_15_eq c).trans (decide_eq_true h)), BitVec.toNat_xor, shiftLeft_one_toNat]
    rfl
  next h => rw [crcBit_clear ((getLsbD_15_eq c).trans (decide_eq_false h)), shiftLeft_one_toNat]

/-- Settles O2. -/
theorem crcByteIsEightBitSteps : Obligations.CrcByteIsEightBitSteps := by
  intro c b
  rw [crcByte, highWord_eq_ofNat, crcBits_eq_iterate]

/-- Settles O3. -/
theorem crc16TakesBytesInOrder : Obligations.Crc16TakesBytesInOrder := ⟨rfl, fun bs b => crc16_append bs [b]⟩

/-- Settles O4, by linearity: the low byte is only shifted, and the table holds what the high byte becomes. -/
theorem crcByteByTable : Obligations.CrcByteByTable := crcByte_eq_table

/-- Settles O5: each of the two bytes meets itself in bits 15..8. -/
theorem crcResidueHighByteFirst : Obligations.CrcResidueHighByteFirst := by
  intro bs
  rw [crc16_append]
  exact crcByte_highByte_lowByte (crc16 bs)

/-- Settles O6: the one result is delivered in the context that the CRC engine leaves alone. -/
theorem crc16Completes : Obligations.Crc16Completes := by
  intro data s
  rw [exec_crc16]
  exact congrArg Host.Outcome.next (finishOk_eq_delivered (.u16 (crc16 data)) (runCrc data s))

end Sys2Proof.Machine
end

section
/-! PROOFS. The frame codec (spec/41_codec.md): the mask of a header bit by bit, and the one result of ENCODE and of
VHDR, each in the context of its operands. -/

namespace Sys2Proof.Machine

/-! ## The header mask (R124, R125) -/

/-- R124: the five checks of a header, in the order of their bits. -/
def fieldMismatches (p : Params) (x op : Byte) (h : HeaderBytes) : List Bool :=
  [h.b0 != p.syncB, h.b1 != x, h.b2 != op, h.b3 != p.syncA, h.b4 != p.syncB]

/-- Five bits of the weights 1, 2, 4, 8 and 16 do not overlap. -/
theorem getLsbD_weightedBits (b0 b1 b2 b3 b4 : Bool) (i : Nat) :
    (BitVec.ofNat 5 (b0.toNat + 2 * b1.toNat + 4 * b2.toNat + 8 * b3.toNat + 16 * b4.toNat)).getLsbD i =
      [b0, b1, b2, b3, b4].getD i false := by
  have hsum : BitVec.ofNat 5 (b0.toNat + 2 * b1.toNat + 4 * b2.toNat + 8 * b3.toNat + 16 * b4.toNat) =
      BitVec.ofBoolListLE [b0, b1, b2, b3, b4] := by
    revert b0 b1 b2 b3 b4
    decide
  rw [hsum]
  exact BitVec.getLsbD_ofBoolListLE

/-- R124: a bit of the mask is the check of its own field. -/
theorem hdrMask_getLsbD (p : Params) (x op : Byte) (h : HeaderBytes) (i : Nat) :
    (hdrMask p x op h).getLsbD i = (fieldMismatches p x op h).getD i false :=
  getLsbD_weightedBits _ _ _ _ _ i

/-- R124: the bit at a field's place is set exactly when the field `b` is not the expected `want`. -/
theorem hdrMask_getLsbD_iff {p : Params} {x op : Byte} {h : HeaderBytes} {i : Nat} {b want : Byte}
    (hi : (fieldMismatches p x op h)[i]? = some (b != want)) :
    (hdrMask p x op h).getLsbD i = true ↔ b ≠ want := by
  rw [hdrMask_getLsbD, List.getD_eq_getElem?_getD, hi, Option.getD_some, bne_iff_ne]

/-- R124: where the mask is 0, the field at any place is the expected one. -/
theorem field_eq_of_hdrMask_eq_zero {p : Params} {x op : Byte} {h : HeaderBytes} {i : Nat} {b want : Byte}
    (hmask : hdrMask p x op h = 0) (hi : (fieldMismatches p x op h)[i]? = some (b != want)) : b = want := by
  by_contra hne
  have hset := (hdrMask_getLsbD_iff hi).mpr hne
  rw [hmask] at hset
  simp at hset

/-- R76: the expected header fails no check. -/
theorem hdrMask_expected (p : Params) (x op : Byte) : hdrMask p x op ⟨p.syncB, x, op, p.syncA, p.syncB⟩ = 0 := by
  simp [hdrMask]

/-! ## The results of ENCODE and VHDR (R120, R123, R149, R218) -/

/-- R149, R218: `finish` with the operands as context delivers one result in that context. -/
theorem finish_eq_delivered_operandResult (status : Status) (mask : BitVec 5) (rxid : Byte) (ropV : Bool) (rop : Byte)
    (value : Value) (s : State) :
    finish
      { Result.blank with status := status, mask := mask, rxid := rxid, ropV := ropV, rop := rop, value := value } s =
      delivered (operandResult status mask rxid ropV rop value) s := rfl

/-- R120: the encoding runs the CRC engine and ends in `OK`. -/
theorem exec_encode_within {c : List Byte} {s : State} (x : Byte) (h : c.length ≤ s.cfg.maxCmdLen.toNat) :
    exec (.encode x c) s =
      .next (delivered (operandResult .ok 0 x (!c.isEmpty) (wireOpcode c) (.bytes (encodeFrame s.cfg x c)))
        (runCrc (x :: c) s)) := by
  rw [← finish_eq_delivered_operandResult]
  exact if_neg (Nat.not_lt.mpr h)

/-- R122: the length alone decides, and nothing is encoded. -/
theorem exec_encode_tooLong {c : List Byte} {s : State} (x : Byte) (h : s.cfg.maxCmdLen.toNat < c.length) :
    exec (.encode x c) s = .next (delivered (operandResult .argTooLong 0 x true (wireOpcode c) .none) s) := by
  rw [← finish_eq_delivered_operandResult]
  exact if_pos h

/-- R123: the operands are the context of the one result, and the mask decides its status. -/
theorem exec_vhdr (x op : Byte) (h : HeaderBytes) (s : State) :
    exec (.vhdr x op h) s =
      .next (delivered
        (operandResult (if hdrMask s.cfg x op h = 0 then .ok else .headerMismatch) (hdrMask s.cfg x op h) x true op .none)
        s) := by
  rw [← finish_eq_delivered_operandResult]
  rfl

/-! ## The obligations on the codec -/

/-- Settles O10: within the limit, ENCODE takes its `OK` branch, also for the empty command. -/
theorem encodeCompletes : Obligations.EncodeCompletes := fun x _ _ hlen => exec_encode_within x hlen

/-- Settles O11: a command beyond the limit has a first byte. -/
theorem encodeTooLongFaults : Obligations.EncodeTooLongFaults := fun x _ _ _ hlen => exec_encode_tooLong x hlen

/-- Settles O12: each bit is looked up among the five checks. -/
theorem headerMaskBits : Obligations.HeaderMaskBits := fun _ _ _ _ =>
  ⟨hdrMask_getLsbD_iff rfl, hdrMask_getLsbD_iff rfl, hdrMask_getLsbD_iff rfl, hdrMask_getLsbD_iff rfl,
    hdrMask_getLsbD_iff rfl⟩

/-- Settles O13: a mask of 0 leaves no field free, and the expected header has it. -/
theorem headerPassesOnlyWhenExpected : Obligations.HeaderPassesOnlyWhenExpected := by
  intro p x op h
  constructor
  · intro hmask
    have hsyncB1 : h.b0 = p.syncB := field_eq_of_hdrMask_eq_zero (i := 0) hmask rfl
    have hid : h.b1 = x := field_eq_of_hdrMask_eq_zero (i := 1) hmask rfl
    have hopcode : h.b2 = op := field_eq_of_hdrMask_eq_zero (i := 2) hmask rfl
    have hsyncA2 : h.b3 = p.syncA := field_eq_of_hdrMask_eq_zero (i := 3) hmask rfl
    have hsyncB2 : h.b4 = p.syncB := field_eq_of_hdrMask_eq_zero (i := 4) hmask rfl
    cases h
    exact (HeaderBytes.mk.injEq ..).mpr ⟨hsyncB1, hid, hopcode, hsyncA2, hsyncB2⟩
  · rintro rfl
    exact hdrMask_expected p x op

/-- Settles O14: VHDR has this one end in every state. -/
theorem vhdrCompletes : Obligations.VhdrCompletes := exec_vhdr

end Sys2Proof.Machine
end

section
/-! PROOFS. The exchange state machine, one step at a time (spec/42_exchange.md R141 to R148): what accepting an
exchange does by the length of its command, what the steps of SENDING, AWAIT_SYNC, READ_HDR and VALIDATED do by their outcomes,
and which accept steps advance `XID`. -/

namespace Sys2Proof.Machine

/-! ## Results in the context of the exchange (R149, R218) -/

/-- R211, R218: a fault with a valid opcode is one result in the context of the exchange. -/
theorem raiseFault_eq_delivered (status : Status) (sub : BitVec 2) (mask : BitVec 5) (s : State) :
    raiseFault status sub mask true s = delivered (exchangeResult status sub mask s) s := rfl

/-- R148: the `OK` of an exchange with nothing more to read. -/
theorem finishOk_eq_delivered_exchangeResult (s : State) :
    finishOk true .none s = delivered (exchangeResult .ok 0 0 s) s := rfl

/-! ## Accept steps (R141, R142, R143) -/

/-- R141, R174, R175: the three exchanges begin alike, each with its continuation. -/
theorem exec_exchanges {cmd : List Byte} {s : State} {t : Cont → State} (n : Word16)
    (h : ∀ k, beginExchange cmd k s = t k) :
    exec (.send cmd) s = .next (t .none)
      ∧ exec (.xread n cmd) s = .next (t (.read n))
      ∧ exec (.xack cmd) s = .next (t .ack) :=
  ⟨congrArg _ (h .none), congrArg _ (h (.read n)), congrArg _ (h .ack)⟩

/-- R142: an exchange takes a new id, however it goes on. -/
theorem beginExchange_xid (cmd : List Byte) (k : Cont) (s : State) : (beginExchange cmd k s).xid = s.xid + 1 := by
  refine beginExchange_cases (P := fun t => t.xid = s.xid + 1) cmd k s ?empty ?long ?begun
  case empty => rfl
  case long => exact fun _ _ _ => rfl
  case begun => exact fun _ _ _ => rfl

theorem serveCommand_xid (shape : Shape) (cmd : List Byte) (s : State) :
    (serveCommand shape cmd s).xid = s.xid + 1 :=
  serveCommand_cases (P := fun t => t.xid = s.xid + 1) shape cmd s fun k => beginExchange_xid cmd k s

theorem startRead_xid (n : Word16) (s : State) : (startRead n s).xid = s.xid := by
  by_cases hn : n = 0
  · rw [hn, startRead_zero, finishOk_xid]
  · rw [startRead_pos s hn]

theorem execEncode_xid {x : Byte} {cmd : List Byte} {s t : State} (h : exec (.encode x cmd) s = .next t) :
    t.xid = s.xid := by
  rcases Nat.lt_or_ge s.cfg.maxCmdLen.toNat cmd.length with hlong | hfits
  · rw [exec_encode_tooLong x hlong] at h
    cases h
    rfl
  · rw [exec_encode_within x hfits] at h
    cases h
    rfl

/-- R195: whatever its shape, a wire command is carried by an exchange. -/
theorem carried_isExchange (shape : Shape) (cmd : List Byte) : isExchange (carried shape cmd) = true := by
  cases shape with
  | none | acknowledgement | rawBytes n => rfl
  | rawBytesScaled perUnit unitCount =>
    unfold carried
    dsimp only
    split
    · rfl
    · rfl

/-- R142: the id after an accept step. -/
theorem exec_xid {i : Instr} {s t : State} (h : exec i s = .next t) :
    t.xid = if isExchange i.expand = true then s.xid + 1 else s.xid := by
  cases hcommand : i.command? with
  | some command =>
    obtain ⟨shape, cmd⟩ := command
    rw [exec_of_command hcommand] at h
    cases h
    rw [expand_of_command hcommand, if_pos (carried_isExchange shape cmd), serveCommand_xid]
  | none =>
    rw [expand_eq_self hcommand]
    cases i with
    | send | xread | xack => cases h; exact beginExchange_xid _ _ s
    | encode => exact execEncode_xid h
    | read n => cases h; exact startRead_xid n s
    | crc16 | vhdr | ack | illegal => cases h; rfl
    | _ => cases hcommand

/-! ## The scan (R145) -/

/-- R145: `miss()` counts, and ends the scan at its limit. -/
theorem scanMiss_eq (s : State) :
    scanMiss s =
      if s.scanCnt + 1 = 100 then delivered (exchangeResult .timeout 0 0 s) { s with scanCnt := s.scanCnt + 1 }
      else { s with scanCnt := s.scanCnt + 1 } := by
  split
  next hlast => exact scanMiss_limit hlast
  next hbelow => exact scanMiss_below hbelow

theorem awaitSyncStep_closed {s : State} (e : Bool) (h : s.closed = true) :
    awaitSyncStep e s = delivered (exchangeResult .ioError 0 0 s) s := by
  rw [awaitSyncStep, rxRead_closed h]
  rfl

theorem awaitSyncStep_timeout {s : State} (h : s.closed = false) (hq : s.rxq = []) :
    awaitSyncStep true s =
      if s.cfg.scanTimeoutCounts = true then scanMiss s else delivered (exchangeResult .timeout 0 0 s) s := by
  rw [awaitSyncStep, rxRead_empty h hq]
  rfl

theorem awaitSyncStep_wait {s : State} (h : s.closed = false) (hq : s.rxq = []) : awaitSyncStep false s = s := by
  rw [awaitSyncStep, rxRead_empty h hq]
  rfl

/-! ## The header (R147) -/

/-- R147: the one register that a header byte goes to; an index beyond the five is none of them (log entry 14). -/
theorem setHeaderByte_eq (h : HeaderBytes) (i : BitVec 3) (b : Byte) :
    setHeaderByte h i b =
      { b0 := if i = 0 then b else h.b0
        b1 := if i = 1 then b else h.b1
        b2 := if i = 2 then b else h.b2
        b3 := if i = 3 then b else h.b3
        b4 := if i = 4 then b else h.b4 } := by
  have hcodes : i = 0 ∨ i = 1 ∨ i = 2 ∨ i = 3 ∨ i = 4 ∨ i = 5 ∨ i = 6 ∨ i = 7 := by decide +revert
  rcases hcodes with rfl | rfl | rfl | rfl | rfl | rfl | rfl | rfl <;> rfl

/-- R147: a header byte is stored and counted, and the fifth completes the header. -/
theorem takeHeaderByte_eq {s : State} (b : Byte) (hst : s.st = .readHdr) :
    takeHeaderByte b s =
      { s with
        hdrBuf := setHeaderByte s.hdrBuf s.hdrCnt b
        hdrCnt := s.hdrCnt + 1
        st := if s.hdrCnt = 4 then .validated else .readHdr } := by
  split
  next hlast => exact takeHeaderByte_last b (by rw [hlast]; rfl)
  next hbelow =>
    have hnotLast : s.hdrCnt + 1 ≠ Config.hdrLen := fun heq => hbelow (add_right_cancel (b := 1) heq)
    rw [takeHeaderByte_below b hnotLast, ← hst]

theorem readHdrStep_closed {s : State} (e : Bool) (h : s.closed = true) :
    readHdrStep e s = delivered (exchangeResult .ioError 0 0 s) s := by
  rw [readHdrStep, rxRead_closed h]
  rfl

theorem readHdrStep_timeout {s : State} (h : s.closed = false) (hq : s.rxq = []) :
    readHdrStep true s = delivered (exchangeResult .timeout 1 0 s) s := by
  rw [readHdrStep, rxRead_empty h hq]
  rfl

theorem readHdrStep_wait {s : State} (h : s.closed = false) (hq : s.rxq = []) : readHdrStep false s = s := by
  rw [readHdrStep, rxRead_empty h hq]
  rfl

/-! ## The check of the header (R148) -/

theorem validatedStep_mismatch {s : State} (h : hdrMask s.cfg s.xid s.ctxOp s.hdrBuf ≠ 0) :
    validatedStep s =
      delivered (exchangeResult .headerMismatch 0 (hdrMask s.cfg s.xid s.ctxOp s.hdrBuf) s) s := by
  unfold validatedStep
  exact if_neg h

/-- R148: what follows a header that passes. -/
theorem validatedStep_passed {s : State} (h : hdrMask s.cfg s.xid s.ctxOp s.hdrBuf = 0) :
    validatedStep s =
      match s.cont with
      | .none => finishOk true .none s
      | .read n => startRead n { s with cont := .none }
      | .ack => startAck { s with cont := .none } := by
  unfold validatedStep
  exact if_pos h

/-! ## The obligations on single steps -/

/-- Settles O18: of the accept steps, only those of an exchange take a new id. -/
theorem onlyExchangesAdvanceXid : Obligations.OnlyExchangesAdvanceXid := by
  intro i s t h
  rw [exec_xid h]
  split
  · exact BitVec.toNat_add s.xid 1
  · rfl

/-- Settles O15: within the limit, the exchange begins. -/
theorem exchangeAcceptCompletes : Obligations.ExchangeAcceptCompletes :=
  fun _ _ n _ hlen => exec_exchanges n fun k => beginExchange_accepted k hlen

/-- Settles O16: the new id is taken before the command is looked at. -/
theorem emptyCommandFaultsBeforeIO : Obligations.EmptyCommandFaultsBeforeIO :=
  fun n s => exec_exchanges n fun k => beginExchange_empty k s

/-- Settles O17: the opcode is recorded before the length is checked. -/
theorem longCommandFaultsBeforeIO : Obligations.LongCommandFaultsBeforeIO :=
  fun _ _ n _ hlong => exec_exchanges n fun k => beginExchange_tooLong k hlong

/-- Settles O20: the free value of a failed write is cut at the length of the frame. -/
theorem sendingStepDiscardsThenWrites : Obligations.SendingStepDiscardsThenWrites := by
  intro e s hst
  rw [blockStep_sending e hst]
  constructor
  · intro hopen
    rw [sendingStep_open hopen]
  · intro hclosed
    refine ⟨min (Config.writeCut s.draws) s.frame.length, Nat.min_le_right _ _, ?_⟩
    rw [sendingStep_closed hclosed, raiseFault_eq_delivered]
    rfl

/-- Settles O21, by the outcome of the read attempt. -/
theorem scanStepByOutcome : Obligations.ScanStepByOutcome := by
  intro e s hst
  rw [blockStep_awaitSync e hst]
  refine ⟨?closed, ?sync, ?other, ?timeout, ?wait⟩
  case closed =>
    intro hc
    rw [awaitSyncStep_closed e hc]
  case sync =>
    intro rest hc hq
    rw [awaitSyncStep_sync (rxRead_byte hc hq) rfl]
  case other =>
    intro b rest hc hq hb
    rw [awaitSyncStep_other (rxRead_byte hc hq) hb, scanMiss_eq]
    rfl
  case timeout =>
    rintro hc hq rfl
    rw [awaitSyncStep_timeout hc hq, scanMiss_eq]
  case wait =>
    rintro hc hq rfl
    rw [awaitSyncStep_wait hc hq]

/-- Settles O23, by the outcome of the read attempt. -/
theorem headerStepByOutcome : Obligations.HeaderStepByOutcome := by
  intro e s hst _
  rw [blockStep_readHdr e hst]
  refine ⟨?closed, ?timeout, ?wait, ?byte⟩
  case closed =>
    intro hc
    rw [readHdrStep_closed e hc]
  case timeout =>
    rintro hc hq rfl
    rw [readHdrStep_timeout hc hq]
  case wait =>
    rintro hc hq rfl
    rw [readHdrStep_wait hc hq]
  case byte =>
    intro b rest hc hq
    rw [readHdrStep_byte (rxRead_byte hc hq), takeHeaderByte_eq (s := { s with rxq := rest }) b hst,
      setHeaderByte_eq]

/-- Settles O25, by the mask and then by the continuation. -/
theorem validatedStepChecksAndContinues : Obligations.ValidatedStepChecksAndContinues := by
  intro e s hst
  rw [blockStep_validated e hst]
  refine ⟨?mismatch, ?done, ?readNothing, ?read, ?ack⟩
  case mismatch =>
    intro hmask
    rw [validatedStep_mismatch hmask]
  case done =>
    intro hmask hcont
    rw [validatedStep_passed hmask, hcont]
    exact congrArg _ (finishOk_eq_delivered_exchangeResult s)
  case readNothing =>
    intro hmask hcont
    rw [validatedStep_passed hmask, hcont]
    exact congrArg _ (startRead_zero _)
  case read =>
    intro n hmask hn hcont
    rw [validatedStep_passed hmask, hcont]
    exact congrArg _ (startRead_pos _ hn)
  case ack =>
    intro hmask hcont
    rw [validatedStep_passed hmask, hcont]
    rfl

end Sys2Proof.Machine
end

section
/-! PROOFS. Operations from step to step (spec/42_exchange.md R140, R149, R153, R154): every step of the block takes a
transition of the table and ends its operation with one response or goes on without one; `XID` counts the exchanges;
and the steps still to take grow fewer. -/

namespace Sys2Proof.Machine

/-! ## Moves of the block (R140, R149) -/

/-- R149: the operation ends, and its result is the one new response. -/
def Ends (s t : State) : Prop := t.st = .idle ∧ t.responses = s.responses ++ [t.res] ∧ t.res.valid = true

/-- R84: the operation goes on, and no response is delivered. -/
def GoesOn (s t : State) : Prop := t.st ≠ .idle ∧ t.responses = s.responses ∧ t.res = s.res

/-- What every step of an operation does that begins in `ST` = `a` and leaves `XID` = `x`. -/
structure Move (a : ExchangeState) (x : Byte) (s t : State) : Prop where
  transition : allowedTransition a t.st = true
  xid : t.xid = x
  sched : t.sched = s.sched
  response : Ends s t ∨ GoesOn s t

section Moves

variable {a : ExchangeState} {x : Byte} {s t : State}

/-- The queue, the port and the continuation play no part in a move. -/
theorem Move.of_fields {rxq : List Byte} {port : Option (List Byte)} {cont : Cont}
    (h : Move a x { s with rxq := rxq, port := port, cont := cont } t) : Move a x s t :=
  ⟨h.transition, h.xid, h.sched, h.response⟩

/-- R149: `finish` ends an operation from every state that may go to `IDLE`. -/
theorem move_finish {r : Result} (ha : allowedTransition a .idle = true) (hxid : t.xid = x)
    (hsched : t.sched = s.sched) (hresponses : t.responses = s.responses) : Move a x s (finish r t) :=
  ⟨ha, hxid, hsched, .inl ⟨rfl, by rw [finish_responses, hresponses]; rfl, rfl⟩⟩

theorem move_goesOn {b : ExchangeState} (hst : t.st = b) (ha : allowedTransition a b = true) (hb : b ≠ .idle)
    (hxid : t.xid = x) (hsched : t.sched = s.sched) (hresponses : t.responses = s.responses) (hres : t.res = s.res) :
    Move a x s t :=
  ⟨hst ▸ ha, hxid, hsched, .inr ⟨hst ▸ hb, hresponses, hres⟩⟩

/-! ## Accept steps -/

theorem move_startRead (n : Word16) (hend : allowedTransition a .idle = true)
    (hread : allowedTransition a .readFixed = true) : Move a s.xid s (startRead n s) := by
  by_cases hn : n = 0
  · rw [hn, startRead_zero]
    exact move_finish hend rfl rfl rfl
  · rw [startRead_pos s hn]
    exact move_goesOn rfl hread nofun rfl rfl rfl rfl

theorem move_startAck (hack : allowedTransition a .readAck = true) : Move a s.xid s (startAck s) :=
  move_goesOn rfl hack nofun rfl rfl rfl rfl

theorem move_beginExchange (cmd : List Byte) (k : Cont) (s : State) :
    Move .idle (s.xid + 1) s (beginExchange cmd k s) := by
  refine beginExchange_cases cmd k s ?empty ?long ?begun
  case empty => exact move_finish rfl rfl rfl rfl
  case long => exact fun _ _ _ => move_finish rfl rfl rfl rfl
  case begun => exact fun _ _ _ => move_goesOn rfl rfl nofun rfl rfl rfl rfl

/-- R84: every accept step is a move from `IDLE`. -/
theorem move_exec {i : Instr} (h : exec i s = .next t) : ∃ x, Move .idle x s t := by
  refine exec_cases (P := fun t => ∃ x, Move .idle x s t) h ?crc16 ?encodeLong ?encode ?vhdr ?read ?ack ?begin ?illegal
  case crc16 => exact fun _ => ⟨_, move_finish rfl rfl rfl rfl⟩
  case encodeLong => exact fun _ _ => ⟨_, move_finish rfl rfl rfl rfl⟩
  case encode => exact fun _ _ => ⟨_, move_finish rfl rfl rfl rfl⟩
  case vhdr => exact fun _ _ _ => ⟨_, move_finish rfl rfl rfl rfl⟩
  case read => exact fun n => ⟨_, move_startRead n rfl rfl⟩
  case ack => exact ⟨_, move_startAck rfl⟩
  case begin => exact fun cmd k => ⟨_, move_beginExchange cmd k s⟩
  case illegal => exact ⟨_, move_finish rfl rfl rfl rfl⟩

/-! ## Steps of the exchange states -/

theorem move_sendingStep (s : State) : Move .sending s.xid s (sendingStep s) := by
  cases hc : s.closed with
  | true =>
    rw [sendingStep_closed hc]
    exact move_finish rfl rfl rfl rfl
  | false =>
    rw [sendingStep_open hc]
    exact move_goesOn rfl rfl nofun rfl rfl rfl rfl

theorem move_scanMiss (hst : s.st = .awaitSync) : Move .awaitSync s.xid s (scanMiss s) := by
  by_cases hlast : s.scanCnt + 1 = Config.scanLimit
  · rw [scanMiss_limit hlast]
    exact move_finish rfl rfl rfl rfl
  · rw [scanMiss_below hlast]
    exact move_goesOn hst rfl nofun rfl rfl rfl rfl

theorem move_awaitSyncStep (e : Bool) (hst : s.st = .awaitSync) : Move .awaitSync s.xid s (awaitSyncStep e s) := by
  refine awaitSyncStep_cases e s ?io ?sync ?other ?timeout ?wait
  case io => exact fun _ => move_finish rfl rfl rfl rfl
  case sync => exact fun _ _ _ => move_goesOn rfl rfl nofun rfl rfl rfl rfl
  case other => exact fun _ rest _ _ _ => (move_scanMiss (s := { s with rxq := rest }) hst).of_fields
  case timeout =>
    intro _ _ _
    split
    · exact move_scanMiss hst
    · exact move_finish rfl rfl rfl rfl
  case wait => exact fun _ _ _ => move_goesOn hst rfl nofun rfl rfl rfl rfl

theorem move_takeHeaderByte (b : Byte) (hst : s.st = .readHdr) : Move .readHdr s.xid s (takeHeaderByte b s) := by
  by_cases hlast : s.hdrCnt + 1 = Config.hdrLen
  · rw [takeHeaderByte_last b hlast]
    exact move_goesOn rfl rfl nofun rfl rfl rfl rfl
  · rw [takeHeaderByte_below b hlast]
    exact move_goesOn hst rfl nofun rfl rfl rfl rfl

theorem move_readHdrStep (e : Bool) (hst : s.st = .readHdr) : Move .readHdr s.xid s (readHdrStep e s) := by
  refine readHdrStep_cases e s ?io ?byte ?timeout ?wait
  case io => exact fun _ => move_finish rfl rfl rfl rfl
  case byte => exact fun b rest _ _ => (move_takeHeaderByte (s := { s with rxq := rest }) b hst).of_fields
  case timeout => exact fun _ _ _ => move_finish rfl rfl rfl rfl
  case wait => exact fun _ _ _ => move_goesOn hst rfl nofun rfl rfl rfl rfl

theorem move_validatedStep (s : State) : Move .validated s.xid s (validatedStep s) := by
  refine validatedStep_cases s ?mismatch ?done ?read ?ack
  case mismatch => exact fun _ => move_finish rfl rfl rfl rfl
  case done => exact fun _ => move_finish rfl rfl rfl rfl
  case read => exact fun n _ => (move_startRead (s := { s with cont := .none }) n rfl rfl).of_fields
  case ack => exact fun _ => (move_startAck (s := { s with cont := .none }) rfl).of_fields

theorem move_takeFixedByte (b : Byte) (hst : s.st = .readFixed) : Move .readFixed s.xid s (takeFixedByte b s) := by
  by_cases hlast : s.rdCnt + 1 = s.rdN
  · rw [takeFixedByte_last b hlast]
    exact move_finish rfl rfl rfl rfl
  · rw [takeFixedByte_below b hlast]
    exact move_goesOn hst rfl nofun rfl rfl rfl rfl

theorem move_readFixedStep (e : Bool) (hst : s.st = .readFixed) : Move .readFixed s.xid s (readFixedStep e s) := by
  refine readFixedStep_cases e s ?io ?byte ?timeout ?wait
  case io => exact fun _ => move_finish rfl rfl rfl rfl
  case byte => exact fun b rest _ _ => (move_takeFixedByte (s := { s with rxq := rest }) b hst).of_fields
  case timeout => exact fun _ _ _ => move_finish rfl rfl rfl rfl
  case wait => exact fun _ _ _ => move_goesOn hst rfl nofun rfl rfl rfl rfl

theorem move_takeAckByte (b : Byte) (hst : s.st = .readAck) : Move .readAck s.xid s (takeAckByte b s) := by
  by_cases hlast : s.ackCnt + 1 = Config.ackLen
  · rw [takeAckByte_last b hlast]
    split
    · exact move_finish rfl rfl rfl rfl
    · exact move_finish rfl rfl rfl rfl
  · rw [takeAckByte_below b hlast]
    exact move_goesOn hst rfl nofun rfl rfl rfl rfl

/-- R173, C5: a short acknowledgement read ends its operation, by a fault of either kind. -/
theorem move_shortAck (s : State) : Move .readAck s.xid s (shortAck s) := by
  unfold shortAck
  split
  · exact move_finish rfl rfl rfl rfl
  · exact move_finish rfl rfl rfl rfl

theorem move_readAckStep (e : Bool) (hst : s.st = .readAck) : Move .readAck s.xid s (readAckStep e s) := by
  refine readAckStep_cases e s ?io ?byte ?timeout ?wait
  case io => exact fun _ => move_finish rfl rfl rfl rfl
  case byte => exact fun b rest _ _ => (move_takeAckByte (s := { s with rxq := rest }) b hst).of_fields
  case timeout => exact fun _ _ _ => move_shortAck s
  case wait => exact fun _ _ _ => move_goesOn hst rfl nofun rfl rfl rfl rfl

/-! ## A step of the block -/

/-- R84: in `IDLE` the block waits, or accepts the request at the port. -/
theorem blockStep_idle_cases {e : Bool} (hidle : s.st = .idle) (hstep : blockStep e s = .next t) :
    (s.port = none ∧ t = s)
      ∨ ∃ req, s.port = some req ∧ exec (decode req) { s with port := none } = .next t := by
  cases hport : s.port with
  | none =>
    rw [blockStep_idle e hidle hport] at hstep
    cases hstep
    exact .inl ⟨rfl, rfl⟩
  | some req =>
    rw [blockStep_accepts e hidle hport] at hstep
    exact .inr ⟨req, rfl, hstep⟩

/-- R140, R142, R149: outside `IDLE` every step of the block is a move that keeps `XID`. -/
theorem move_blockStep {e : Bool} (hbusy : s.st ≠ .idle) (hstep : blockStep e s = .next t) : Move s.st s.xid s t := by
  refine blockStep_cases (P := fun t => Move s.st s.xid s t) hstep ?idle ?accept ?sending ?scan ?header ?validated
    ?fixed ?ack
  case idle => exact fun hidle => absurd hidle hbusy
  case accept => exact fun _ hidle => absurd hidle hbusy
  case sending => exact fun hst => hst ▸ move_sendingStep s
  case scan => exact fun hst => hst ▸ move_awaitSyncStep e hst
  case header => exact fun hst => hst ▸ move_readHdrStep e hst
  case validated => exact fun hst => hst ▸ move_validatedStep s
  case fixed => exact fun hst => hst ▸ move_readFixedStep e hst
  case ack => exact fun hst => hst ▸ move_readAckStep e hst

/-- The block does not look at the moves still to come. -/
theorem blockStep_sched {e : Bool} (hstep : blockStep e s = .next t) : t.sched = s.sched := by
  by_cases hidle : s.st = .idle
  · rcases blockStep_idle_cases hidle hstep with ⟨-, rfl⟩ | ⟨req, -, hexec⟩
    · rfl
    · obtain ⟨x, hmove⟩ := move_exec hexec
      exact hmove.sched
  · exact (move_blockStep hidle hstep).sched

/-! ## The id along a run (R142, R153) -/

theorem arrive_eq (b : Byte) (s : State) : ∃ rxq, arrive b s = { s with rxq := rxq } := by
  rcases Bool.eq_false_or_eq_true s.closed with hc | hc
  · exact ⟨s.rxq, arrive_closed b hc⟩
  · exact ⟨_, arrive_open b hc⟩

theorem present_eq (req : List Byte) (s : State) : ∃ port, present req s = { s with port := port } := by
  cases hp : s.port with
  | none => exact ⟨_, present_free req hp⟩
  | some held => exact ⟨s.port, present_held req hp⟩

/-- One move leaves the schedule, and no other is put there. -/
theorem step_sched (hstep : step s = .next t) : t.sched = s.sched.tail := by
  cases hs : s.sched with
  | nil =>
    rw [step_unscheduled hs] at hstep
    exact (blockStep_sched hstep).trans hs
  | cons ev rest =>
    rw [step_scheduled hs] at hstep
    cases ev with
    | arrive b =>
      cases hstep
      obtain ⟨rxq, harrive⟩ := arrive_eq b { s with sched := rest }
      rw [harrive, List.tail_cons]
    | close => cases hstep; rfl
    | present req =>
      cases hstep
      obtain ⟨port, hpresent⟩ := present_eq req { s with sched := rest }
      rw [hpresent, List.tail_cons]
    | reset => cases hstep; rfl
    | block elapsed => exact blockStep_sched hstep

theorem noReset_step (hreset : noReset s = true) (hstep : step s = .next t) : noReset t = true := by
  unfold noReset at hreset ⊢
  rw [step_sched hstep]
  rw [List.all_eq_true] at hreset ⊢
  exact fun ev hev => hreset ev (List.mem_of_mem_tail hev)

/-- The request at the port is an exchange, and the block is free to accept it. -/
def offersExchange (s : State) : Bool := s.st == .idle && s.port.any fun req => isExchange (decode req)

theorem acceptsExchange_eq (s : State) : acceptsExchange s = (blockMoves s && offersExchange s) := by
  unfold acceptsExchange offersExchange
  cases s.port <;> simp [Bool.and_assoc]

/-- R90: what is decoded is no wire command, and stands for itself. -/
theorem expand_decode (req : List Byte) : (decode req).expand = decode req := by
  rcases decode_cases req with ⟨-, hillegal⟩ | ⟨-, hrequest, -⟩
  · rw [hillegal]
    rfl
  · cases hdecode : decode req with
    | crc16 | encode | vhdr | send | read | ack | xread | xack | illegal => rfl
    | _ => rw [hdecode] at hrequest; cases hrequest

/-- R142: a step of the block takes a new id exactly when it accepts an exchange. -/
theorem blockStep_xid {e : Bool} (hstep : blockStep e s = .next t) :
    t.xid = if offersExchange s = true then s.xid + 1 else s.xid := by
  unfold offersExchange
  by_cases hidle : s.st = .idle
  · rcases blockStep_idle_cases hidle hstep with ⟨hport, rfl⟩ | ⟨req, hport, hexec⟩
    · simp [hport]
    · rw [exec_xid hexec, expand_decode]
      simp [hidle, hport]
  · rw [(move_blockStep hidle hstep).xid]
    simp [hidle]

/-- R142, R153: a step of the machine takes a new id exactly when it accepts an exchange, or else resets. -/
theorem step_xid (hreset : noReset s = true) (hstep : step s = .next t) :
    t.xid = if acceptsExchange s = true then s.xid + 1 else s.xid := by
  rw [acceptsExchange_eq]
  cases hs : s.sched with
  | nil =>
    rw [step_unscheduled hs] at hstep
    simpa [blockMoves, hs] using blockStep_xid hstep
  | cons ev rest =>
    rw [step_scheduled hs] at hstep
    cases ev with
    | arrive b =>
      cases hstep
      obtain ⟨rxq, harrive⟩ := arrive_eq b { s with sched := rest }
      simp [blockMoves, hs, harrive]
    | close =>
      cases hstep
      simp [blockMoves, hs]
    | present req =>
      cases hstep
      obtain ⟨port, hpresent⟩ := present_eq req { s with sched := rest }
      simp [blockMoves, hs, hpresent]
    | reset => simp [noReset, hs] at hreset
    | block elapsed => simpa [blockMoves, hs, offersExchange] using blockStep_xid hstep

theorem acceptedExchanges_succ (k : Nat) (hstep : step s = .next t) :
    acceptedExchanges (k + 1) s = (if acceptsExchange s = true then 1 else 0) + acceptedExchanges k t := by
  rw [acceptedExchanges, hstep]

theorem runSteps_xid {k : Nat} (hreset : noReset s = true) (hrun : runSteps k s = .next t) :
    t.xid.toNat = (s.xid.toNat + acceptedExchanges k s) % 256 := by
  induction k generalizing s with
  | zero =>
    cases hrun
    exact (Nat.mod_eq_of_lt t.xid.isLt).symm
  | succ k ih =>
    obtain ⟨u, hstep, hrest⟩ := runSteps_succ_next hrun
    have hu : u.xid.toNat = (s.xid.toNat + if acceptsExchange s = true then 1 else 0) % 256 := by
      rw [step_xid hreset hstep]
      split
      · exact BitVec.toNat_add s.xid 1
      · exact (Nat.mod_eq_of_lt s.xid.isLt).symm
    rw [ih (noReset_step hreset hstep) hrest, acceptedExchanges_succ k hstep, hu]
    omega

/-! ## The steps still to take (R154, R178) -/

/-- Where the operation has ended, no step is left. -/
theorem stepsLeft_idle (h : s.st = .idle) : stepsLeft s = 0 := by
  simp only [stepsLeft, h]

/-- R154: a step that ends the operation leaves fewer steps than one that was to be taken. -/
theorem stepsLeft_lt_of_idle (ht : t.st = .idle) (hs : 0 < stepsLeft s) : stepsLeft t < stepsLeft s := by
  rwa [stepsLeft_idle ht]

theorem stepsLeft_sendingStep_lt (hst : s.st = .sending) : stepsLeft (sendingStep s) < stepsLeft s := by
  have hleft : stepsLeft s = 1 + 100 + 5 + 1 + contAttempts s.cont := by simp only [stepsLeft, hst]
  cases hc : s.closed with
  | true =>
    rw [sendingStep_closed hc]
    exact stepsLeft_lt_of_idle rfl (by omega)
  | false =>
    rw [sendingStep_open hc, hleft]
    simp only [stepsLeft]
    omega

/-- R146: each miss leaves one attempt of the scan less. -/
theorem stepsLeft_scanMiss_lt (hst : s.st = .awaitSync) (hcnt : s.scanCnt.toNat < 100) :
    stepsLeft (scanMiss s) < stepsLeft s := by
  have hleft : stepsLeft s = (100 - s.scanCnt.toNat) + 5 + 1 + contAttempts s.cont := by simp only [stepsLeft, hst]
  by_cases hlast : s.scanCnt + 1 = Config.scanLimit
  · rw [scanMiss_limit hlast]
    exact stepsLeft_lt_of_idle rfl (by omega)
  · have hsucc := toNat_succ_of_below (limit := Config.scanLimit) hcnt
    rw [scanMiss_below hlast, hleft]
    simp only [stepsLeft, hst, hsucc]
    omega

theorem stepsLeft_awaitSyncStep_lt (hst : s.st = .awaitSync) (hcnt : s.scanCnt.toNat < 100) :
    stepsLeft (awaitSyncStep true s) < stepsLeft s := by
  have hleft : stepsLeft s = (100 - s.scanCnt.toNat) + 5 + 1 + contAttempts s.cont := by simp only [stepsLeft, hst]
  refine awaitSyncStep_cases (P := fun t => stepsLeft t < stepsLeft s) true s ?io ?sync ?other ?timeout ?wait
  case io => exact fun _ => stepsLeft_lt_of_idle rfl (by omega)
  case sync =>
    intro rest _ _
    rw [hleft]
    simp only [stepsLeft]
    omega
  case other => exact fun _ rest _ _ _ => stepsLeft_scanMiss_lt (s := { s with rxq := rest }) hst hcnt
  case timeout =>
    intro _ _ _
    split
    · exact stepsLeft_scanMiss_lt hst hcnt
    · exact stepsLeft_lt_of_idle rfl (by omega)
  case wait => exact fun _ _ => nofun

/-- R147: each header byte leaves one attempt less, and the fifth leaves the check. -/
theorem stepsLeft_takeHeaderByte_lt (b : Byte) (hst : s.st = .readHdr) (hcnt : s.hdrCnt.toNat < 5) :
    stepsLeft (takeHeaderByte b s) < stepsLeft s := by
  have hleft : stepsLeft s = (5 - s.hdrCnt.toNat) + 1 + contAttempts s.cont := by simp only [stepsLeft, hst]
  by_cases hlast : s.hdrCnt + 1 = Config.hdrLen
  · rw [takeHeaderByte_last b hlast, hleft]
    simp only [stepsLeft]
    omega
  · have hsucc := toNat_succ_of_below (limit := Config.hdrLen) hcnt
    rw [takeHeaderByte_below b hlast, hleft]
    simp only [stepsLeft, hst, hsucc]
    omega

theorem stepsLeft_readHdrStep_lt (hst : s.st = .readHdr) (hcnt : s.hdrCnt.toNat < 5) :
    stepsLeft (readHdrStep true s) < stepsLeft s := by
  have hpos : 0 < stepsLeft s := by simp only [stepsLeft, hst]; omega
  refine readHdrStep_cases (P := fun t => stepsLeft t < stepsLeft s) true s ?io ?byte ?timeout ?wait
  case io => exact fun _ => stepsLeft_lt_of_idle rfl hpos
  case byte => exact fun b rest _ _ => stepsLeft_takeHeaderByte_lt (s := { s with rxq := rest }) b hst hcnt
  case timeout => exact fun _ _ _ => stepsLeft_lt_of_idle rfl hpos
  case wait => exact fun _ _ => nofun

/-- R148, R178: the check leaves the attempts of the continuation. -/
theorem stepsLeft_validatedStep_lt (hst : s.st = .validated) : stepsLeft (validatedStep s) < stepsLeft s := by
  have hleft : stepsLeft s = 1 + contAttempts s.cont := by simp only [stepsLeft, hst]
  refine validatedStep_cases (P := fun t => stepsLeft t < stepsLeft s) s ?mismatch ?done ?read ?ack
  case mismatch => exact fun _ => stepsLeft_lt_of_idle rfl (by omega)
  case done => exact fun _ => stepsLeft_lt_of_idle rfl (by omega)
  case read =>
    intro n hcont
    by_cases hn : n = 0
    · rw [hn, startRead_zero]
      exact stepsLeft_lt_of_idle rfl (by omega)
    · rw [startRead_pos _ hn, hleft, hcont]
      simp only [stepsLeft, contAttempts]
      omega
  case ack =>
    intro hcont
    rw [hleft, hcont]
    simp only [stepsLeft, startAck, contAttempts]
    omega

/-- R171: each payload byte leaves one attempt less. -/
theorem stepsLeft_takeFixedByte_lt (b : Byte) (hst : s.st = .readFixed) (hcnt : s.rdCnt.toNat < s.rdN.toNat) :
    stepsLeft (takeFixedByte b s) < stepsLeft s := by
  have hleft : stepsLeft s = s.rdN.toNat - s.rdCnt.toNat := by simp only [stepsLeft, hst]
  by_cases hlast : s.rdCnt + 1 = s.rdN
  · rw [takeFixedByte_last b hlast]
    exact stepsLeft_lt_of_idle rfl (by omega)
  · have hsucc := toNat_succ_of_below hcnt
    rw [takeFixedByte_below b hlast, hleft]
    simp only [stepsLeft, hst, hsucc]
    omega

theorem stepsLeft_readFixedStep_lt (hst : s.st = .readFixed) (hcnt : s.rdCnt.toNat < s.rdN.toNat) :
    stepsLeft (readFixedStep true s) < stepsLeft s := by
  have hpos : 0 < stepsLeft s := by simp only [stepsLeft, hst]; omega
  refine readFixedStep_cases (P := fun t => stepsLeft t < stepsLeft s) true s ?io ?byte ?timeout ?wait
  case io => exact fun _ => stepsLeft_lt_of_idle rfl hpos
  case byte => exact fun b rest _ _ => stepsLeft_takeFixedByte_lt (s := { s with rxq := rest }) b hst hcnt
  case timeout => exact fun _ _ _ => stepsLeft_lt_of_idle rfl hpos
  case wait => exact fun _ _ => nofun

/-- R173: each acknowledgement byte leaves one attempt less. -/
theorem stepsLeft_takeAckByte_lt (b : Byte) (hst : s.st = .readAck) (hcnt : s.ackCnt.toNat < 4) :
    stepsLeft (takeAckByte b s) < stepsLeft s := by
  have hleft : stepsLeft s = 4 - s.ackCnt.toNat := by simp only [stepsLeft, hst]
  by_cases hlast : s.ackCnt + 1 = Config.ackLen
  · rw [takeAckByte_last b hlast]
    split
    · exact stepsLeft_lt_of_idle rfl (by omega)
    · exact stepsLeft_lt_of_idle rfl (by omega)
  · have hsucc := toNat_succ_of_below (limit := Config.ackLen) hcnt
    rw [takeAckByte_below b hlast, hleft]
    simp only [stepsLeft, hst, hsucc]
    omega

theorem stepsLeft_readAckStep_lt (hst : s.st = .readAck) (hcnt : s.ackCnt.toNat < 4) :
    stepsLeft (readAckStep true s) < stepsLeft s := by
  have hpos : 0 < stepsLeft s := by simp only [stepsLeft, hst]; omega
  refine readAckStep_cases (P := fun t => stepsLeft t < stepsLeft s) true s ?io ?byte ?timeout ?wait
  case io => exact fun _ => stepsLeft_lt_of_idle rfl hpos
  case byte => exact fun b rest _ _ => stepsLeft_takeAckByte_lt (s := { s with rxq := rest }) b hst hcnt
  case timeout =>
    intro _ _ _
    unfold shortAck
    split
    · exact stepsLeft_lt_of_idle rfl hpos
    · exact stepsLeft_lt_of_idle rfl hpos
  case wait => exact fun _ _ => nofun

/-- R154, R178: where no attempt waits, every step of an operation in progress brings its end nearer. -/
theorem stepsLeft_blockStep_lt (hinv : BlockInv s) (hbusy : s.st ≠ .idle) (hstep : blockStep true s = .next t) :
    stepsLeft t < stepsLeft s := by
  refine blockStep_cases (P := fun t => stepsLeft t < stepsLeft s) hstep ?idle ?accept ?sending ?scan ?header
    ?validated ?fixed ?ack
  case idle => exact fun hidle => absurd hidle hbusy
  case accept => exact fun _ hidle => absurd hidle hbusy
  case sending => exact stepsLeft_sendingStep_lt
  case scan => exact fun hst => stepsLeft_awaitSyncStep_lt hst (hinv.scanBelowLimit hst)
  case header => exact fun hst => stepsLeft_readHdrStep_lt hst (hinv.headerIncomplete hst)
  case validated => exact stepsLeft_validatedStep_lt
  case fixed => exact fun hst => stepsLeft_readFixedStep_lt hst (hinv.fixedIncomplete hst).1
  case ack => exact fun hst => stepsLeft_readAckStep_lt hst (hinv.ackIncomplete hst)

/-- R154, R178: the operation in progress runs to its one response, within its bound. -/
theorem runSteps_ends (hinv : BlockInv s) (hsched : s.sched = []) (hbusy : s.st ≠ .idle) :
    ∃ k t, 1 ≤ k ∧ k ≤ stepsLeft s ∧ runSteps k s = .next t ∧ Ends s t := by
  induction hn : stepsLeft s using Nat.strong_induction_on generalizing s with
  | _ n ih =>
    subst hn
    obtain ⟨u, hstep⟩ := blockStep_next true hinv.stUsed
    have hfewer := stepsLeft_blockStep_lt hinv hbusy hstep
    have hmove := move_blockStep hbusy hstep
    have hrun : ∀ k, runSteps (k + 1) s = runSteps k u := fun k =>
      runSteps_succ k ((step_unscheduled hsched).trans hstep)
    rcases hmove.response with hends | ⟨hbusy', hresponses, -⟩
    · exact ⟨1, u, le_rfl, by omega, hrun 0, hends⟩
    · obtain ⟨k, t, hk, hbound, hrest, hidle, hresponse, hvalid⟩ :=
        ih _ hfewer (hinv.blockStep hstep) (hmove.sched.trans hsched) hbusy' rfl
      exact ⟨k + 1, t, by omega, by omega, (hrun k).trans hrest, hidle, hresponses ▸ hresponse, hvalid⟩

end Moves

/-! ## The obligations on operations -/

/-- Settles O19, by induction on the number of steps. -/
theorem xidCountsAcceptedExchanges : Obligations.XidCountsAcceptedExchanges :=
  fun _ _ _ hreset hrun => runSteps_xid hreset hrun

/-- Settles O49: in `IDLE` the block waits or accepts a request, and elsewhere every step is a move. -/
theorem onlyTabledTransitions : Obligations.OnlyTabledTransitions := by
  intro e s t hstep
  by_cases hidle : s.st = .idle
  · rcases blockStep_idle_cases hidle hstep with ⟨-, rfl⟩ | ⟨req, -, hexec⟩
    · rw [hidle]
      rfl
    · obtain ⟨x, hmove⟩ := move_exec hexec
      rw [hidle]
      exact hmove.transition
  · exact (move_blockStep hidle hstep).transition

/-- Settles O54, by induction on the steps still to take. -/
theorem operationEndsWithinItsBound : Obligations.OperationEndsWithinItsBound := by
  intro s hinv hsched hbusy
  obtain ⟨k, t, hk, hbound, hrun, hidle, hresponse, -⟩ := runSteps_ends hinv hsched hbusy
  exact ⟨k, t, hk, hbound, hrun, hidle, hresponse⟩

/-- Settles O55: accept steps and the later steps of an operation are moves alike. -/
theorem oneResponsePerOperation : Obligations.OneResponsePerOperation := by
  rintro s t (⟨i, hexec⟩ | ⟨hbusy, e, hstep⟩)
  · obtain ⟨x, hmove⟩ := move_exec hexec
    exact hmove.response
  · exact (move_blockStep hbusy hstep).response

end Sys2Proof.Machine
end

section
/-! PROOFS. Exchanges over several steps (spec/42_exchange.md R146, R150, R151, R155): arrivals, a scan, a header, and
from them the bounds of a scan and the runs from a request to its response. -/

namespace Sys2Proof.Machine

section Runs

variable {s t u : State}

/-! ## Runs -/

/-- Two runs, one after the other. -/
theorem runSteps_trans {j k : Nat} (hst : runSteps j s = .next t) (htu : runSteps k t = .next u) :
    runSteps (j + k) s = .next u :=
  (runSteps_add k hst).trans htu

theorem runSteps_one (h : step s = .next t) : runSteps 1 s = .next t := runSteps_succ 0 h

/-- R51: bytes that arrive one after the other are queued in that order. -/
theorem runSteps_arrivals {bs : List Byte} (hclosed : s.closed = false) (hsched : s.sched = bs.map .arrive) :
    runSteps bs.length s = .next { s with sched := [], rxq := s.rxq ++ bs } := by
  induction bs generalizing s with
  | nil =>
    rw [List.append_nil, ← show s.sched = [] from hsched]
    rfl
  | cons b bs ih =>
    have hstep : step s = .next { s with sched := bs.map .arrive, rxq := s.rxq ++ [b] } :=
      (environmentAndHostMoves s _).1 b hsched hclosed
    have hrest := ih (s := { s with sched := bs.map .arrive, rxq := s.rxq ++ [b] }) hclosed rfl
    rw [List.append_assoc, List.singleton_append] at hrest
    rw [List.length_cons, runSteps_succ _ hstep, hrest]

/-! ## The scan (R145, R146) -/

/-- A counter stepped `n` times and then once more. -/
theorem add_ofNat_succ {w : Nat} (c : BitVec w) (n : Nat) :
    c + BitVec.ofNat w (n + 1) = c + BitVec.ofNat w n + 1 := by
  rw [BitVec.ofNat_add, ← BitVec.add_assoc]
  rfl

/-- R145: each of the next `n` attempts of the scan is a miss, wherever the count stands; before attempt `i` the queue
is `q i`. -/
def Misses (s : State) (n : Nat) (q : Nat → List Byte) : Prop :=
  ∀ i, i < n → ∀ c,
    step { s with scanCnt := c, rxq := q i } = .next (scanMiss { s with scanCnt := c, rxq := q (i + 1) })

/-- R145: misses below the limit are counted. -/
theorem Misses.run {n : Nat} {q : Nat → List Byte} (h : Misses s n q) (hq : s.rxq = q 0)
    (hcnt : s.scanCnt.toNat + n < 100) :
    runSteps n s = .next { s with scanCnt := s.scanCnt + BitVec.ofNat 7 n, rxq := q n } := by
  induction n with
  | zero =>
    rw [show s.scanCnt + BitVec.ofNat 7 0 = s.scanCnt from BitVec.add_zero _, ← hq]
    rfl
  | succ n ih =>
    have hfirst := ih (fun i hi => h i (by omega)) (by omega)
    have hne : s.scanCnt + BitVec.ofNat 7 n + 1 ≠ Config.scanLimit := by
      rw [Config.scanLimit]
      bv_omega
    refine runSteps_trans hfirst (runSteps_one ?_)
    rw [h n (by omega), scanMiss_below hne, add_ofNat_succ]

/-- R145, R146: the miss that reaches the limit ends the exchange. -/
theorem Misses.timeout {n : Nat} {q : Nat → List Byte} (h : Misses s (n + 1) q) (hq : s.rxq = q 0)
    (hcnt : s.scanCnt.toNat + n = 99) :
    runSteps (n + 1) s =
      .next (delivered (exchangeResult .timeout 0 0 s) { s with scanCnt := 100, rxq := q (n + 1) }) := by
  have hbelow : Misses s n q := fun i hi => h i (by omega)
  have hfirst := hbelow.run hq (by omega)
  have hlast : s.scanCnt + BitVec.ofNat 7 n + 1 = 100 := by bv_omega
  refine runSteps_trans hfirst (runSteps_one ?_)
  rw [h n (by omega), scanMiss_eq, if_pos hlast, hlast]
  rfl

section Scan

variable (hst : s.st = .awaitSync) (hclosed : s.closed = false) (hsched : s.sched = [])
include hst hclosed hsched

theorem step_noise {b : Byte} {rest : List Byte} (hq : s.rxq = b :: rest) (hb : b ≠ s.cfg.syncA) :
    step s = .next (scanMiss { s with rxq := rest }) := by
  rw [step_unscheduled hsched, blockStep_awaitSync true hst, awaitSyncStep_other (rxRead_byte hclosed hq) hb]

theorem step_silence (hq : s.rxq = []) (hcounts : s.cfg.scanTimeoutCounts = true) :
    step s = .next (scanMiss s) := by
  rw [step_unscheduled hsched, blockStep_awaitSync true hst, awaitSyncStep_timeout hclosed hq, if_pos hcounts]

/-- R145: bytes other than SYNC_A are misses. -/
theorem misses_noise {g : List Byte} (rest : List Byte) (hg : ∀ b ∈ g, b ≠ s.cfg.syncA) :
    Misses s g.length fun i => g.drop i ++ rest := by
  intro i hi c
  have hfront : g.drop i ++ rest = g[i] :: (g.drop (i + 1) ++ rest) := by
    rw [List.drop_eq_getElem_cons hi, List.cons_append]
  exact step_noise (s := { s with scanCnt := c, rxq := g.drop i ++ rest }) hst hclosed hsched hfront
    (hg _ (List.getElem_mem hi))

/-- R145: timed-out attempts are misses, where such attempts count. -/
theorem misses_silence (n : Nat) (hq : s.rxq = []) (hcounts : s.cfg.scanTimeoutCounts = true) :
    Misses s n fun _ => s.rxq :=
  fun _ _ c => step_silence (s := { s with scanCnt := c }) hst hclosed hsched hq hcounts

/-- R145: the SYNC_A that ends the scan is consumed, whatever the count. -/
theorem step_sync {rest : List Byte} (hq : s.rxq = s.cfg.syncA :: rest) :
    step s = .next { s with rxq := rest, hdrCnt := 0, st := .readHdr } := by
  rw [step_unscheduled hsched, blockStep_awaitSync true hst, awaitSyncStep_sync (rxRead_byte hclosed hq) rfl]

/-- R146: fewer than 100 other bytes, and then SYNC_A. -/
theorem runSteps_scan {g rest : List Byte} (hcnt : s.scanCnt = 0) (hg : ∀ b ∈ g, b ≠ s.cfg.syncA)
    (hlen : g.length < 100) (hq : s.rxq = g ++ s.cfg.syncA :: rest) :
    runSteps (g.length + 1) s =
      .next { s with scanCnt := BitVec.ofNat 7 g.length, hdrCnt := 0, st := .readHdr, rxq := rest } := by
  have hnoise := (misses_noise hst hclosed hsched (s.cfg.syncA :: rest) hg).run hq (by rw [hcnt]; simpa using hlen)
  rw [hcnt, show 0 + BitVec.ofNat 7 g.length = BitVec.ofNat 7 g.length from BitVec.zero_add _, List.drop_length]
    at hnoise
  refine runSteps_trans hnoise (runSteps_one ?_)
  apply step_sync
  exacts [hst, hclosed, hsched, rfl]

end Scan

/-! ## The header (R147) -/

/-- R147: the header registers after the bytes `bs`, the first of them at index `i`. -/
def fillHeader (h : HeaderBytes) (i : BitVec 3) : List Byte → HeaderBytes
  | [] => h
  | b :: bs => fillHeader (setHeaderByte h i b) (i + 1) bs

section Header

variable (hst : s.st = .readHdr) (hclosed : s.closed = false) (hsched : s.sched = [])
include hst hclosed hsched

theorem step_headerByte {b : Byte} {rest : List Byte} (hq : s.rxq = b :: rest) :
    step s = .next (takeHeaderByte b { s with rxq := rest }) := by
  rw [step_unscheduled hsched, blockStep_readHdr true hst, readHdrStep_byte (rxRead_byte hclosed hq)]

theorem step_headerTimeout (hq : s.rxq = []) :
    step s = .next (delivered (exchangeResult .timeout 1 0 s) s) := by
  rw [step_unscheduled hsched, blockStep_readHdr true hst, readHdrStep_timeout hclosed hq]

/-- R147: fewer than five bytes leave the header incomplete. -/
theorem runSteps_headerBytes {bs rest : List Byte} (hcnt : s.hdrCnt.toNat + bs.length < 5)
    (hq : s.rxq = bs ++ rest) :
    runSteps bs.length s =
      .next { s with
        hdrBuf := fillHeader s.hdrBuf s.hdrCnt bs
        hdrCnt := s.hdrCnt + BitVec.ofNat 3 bs.length
        rxq := rest } := by
  induction bs generalizing s with
  | nil =>
    rw [show s.hdrCnt + BitVec.ofNat 3 [].length = s.hdrCnt from BitVec.add_zero _, ← show s.rxq = rest from hq]
    rfl
  | cons b bs ih =>
    rw [List.length_cons] at hcnt
    have hnotLast : s.hdrCnt + 1 ≠ Config.hdrLen := by
      rw [Config.hdrLen]
      bv_omega
    have hsucc : (s.hdrCnt + 1).toNat + bs.length < 5 := by bv_omega
    have hbyte := (step_headerByte hst hclosed hsched hq).trans (congrArg _ (takeHeaderByte_below b hnotLast))
    rw [List.length_cons, runSteps_succ _ hbyte, add_ofNat_succ, add_right_comm]
    apply ih
    exacts [hst, hclosed, hsched, hsucc, rfl]

/-- `s` with the header `h` held and not yet checked, where the scan counted to `c` and `rest` is unread. -/
def headerHeld (c : BitVec 7) (h : HeaderBytes) (rest : List Byte) (s : State) : State :=
  { s with scanCnt := c, hdrBuf := h, hdrCnt := 5, st := .validated, rxq := rest }

/-- R147: five bytes complete the header. -/
theorem runSteps_header {h : HeaderBytes} {rest : List Byte} (hcnt : s.hdrCnt = 0)
    (hq : s.rxq = [h.b0, h.b1, h.b2, h.b3, h.b4] ++ rest) :
    runSteps 5 s = .next (headerHeld s.scanCnt h rest s) := by
  have hfour := runSteps_headerBytes (bs := [h.b0, h.b1, h.b2, h.b3]) (rest := h.b4 :: rest) hst hclosed hsched
    (by rw [hcnt]; exact Nat.lt_succ_self 4) hq
  rw [hcnt] at hfour
  refine runSteps_trans (j := 4) hfour (runSteps_one ?_)
  rw [step_headerByte (b := h.b4) (rest := rest)]
  exacts [congrArg _ (takeHeaderByte_last h.b4 rfl), hst, hclosed, hsched, rfl]

end Header

/-! ## The check of the header (R148, R151) -/

theorem step_headerMismatch (hst : s.st = .validated) (hsched : s.sched = [])
    (hmask : hdrMask s.cfg s.xid s.ctxOp s.hdrBuf ≠ 0) :
    step s =
      .next (delivered (exchangeResult .headerMismatch 0 (hdrMask s.cfg s.xid s.ctxOp s.hdrBuf) s) s) := by
  rw [step_unscheduled hsched, blockStep_validated true hst, validatedStep_mismatch hmask]

/-- R76, R148: the expected header ends an exchange with nothing more to read in `OK`. -/
theorem step_headerPasses_done (hst : s.st = .validated) (hsched : s.sched = [])
    (hhdr : s.hdrBuf = ⟨s.cfg.syncB, s.xid, s.ctxOp, s.cfg.syncA, s.cfg.syncB⟩) (hcont : s.cont = .none) :
    step s = .next (delivered (exchangeResult .ok 0 0 s) s) := by
  have hmask : hdrMask s.cfg s.xid s.ctxOp s.hdrBuf = 0 := by rw [hhdr, hdrMask_expected]
  rw [step_unscheduled hsched, blockStep_validated true hst, validatedStep_passed hmask, hcont]
  exact congrArg _ (finishOk_eq_delivered_exchangeResult s)

/-! ## From a request to its checked header (R141 to R147) -/

/-- R151: the first SYNC_A and the five bytes after it are taken for a header. -/
theorem runSteps_lock {rest : List Byte} {h : HeaderBytes} (hst : s.st = .awaitSync) (hclosed : s.closed = false)
    (hsched : s.sched = []) (hq : s.rxq = [s.cfg.syncA, h.b0, h.b1, h.b2, h.b3, h.b4] ++ rest) :
    runSteps 6 s = .next (headerHeld s.scanCnt h rest s) := by
  rw [runSteps_succ 5 (step_sync hst hclosed hsched hq)]
  apply runSteps_header
  exacts [rfl, hclosed, hsched, rfl, rfl]

/-- R145, R147: noise, SYNC_A and five bytes bring a fresh scan to the check of these five. -/
theorem runSteps_toValidated {g rest : List Byte} {h : HeaderBytes} (hst : s.st = .awaitSync)
    (hclosed : s.closed = false) (hsched : s.sched = []) (hcnt : s.scanCnt = 0) (hg : ∀ b ∈ g, b ≠ s.cfg.syncA)
    (hlen : g.length < 100) (hq : s.rxq = g ++ [s.cfg.syncA, h.b0, h.b1, h.b2, h.b3, h.b4] ++ rest) :
    runSteps (g.length + 1 + 5) s = .next (headerHeld (BitVec.ofNat 7 g.length) h rest s) := by
  rw [List.append_assoc] at hq
  refine runSteps_trans (runSteps_scan hst hclosed hsched hcnt hg hlen hq) ?_
  apply runSteps_header
  exacts [rfl, hclosed, hsched, rfl, rfl]

/-- `s` after an exchange has been accepted and its frame sent, with the bytes `inbound` then arrived. -/
def awaiting (op : Byte) (args : List Byte) (k : Cont) (inbound : List Byte) (s : State) : State :=
  { begun op args k s with
    port := none
    sched := []
    scanCnt := 0
    st := .awaitSync
    rxq := inbound
    txlog := s.txlog ++ encodeFrame s.cfg (s.xid + 1) (op :: args) }

/-- R144: a scheduled step in SENDING, on an open stream. -/
theorem step_sending {e : Bool} {rest : List Event} (hst : s.st = .sending) (hclosed : s.closed = false)
    (hsched : s.sched = .block e :: rest) :
    step s =
      .next { s with
        sched := rest
        rxq := []
        txlog := s.txlog ++ s.frame
        scanCnt := 0
        st := .awaitSync } := by
  rw [step_scheduled hsched, runEvent, blockStep_sending (s := { s with sched := rest }) e hst,
    sendingStep_open (s := { s with sched := rest }) hclosed]

/-- R141, R144: an exchange is accepted, what was buffered is discarded, its frame is written, and then the bytes of
`inbound` arrive. -/
theorem runSteps_request {req inbound : List Byte} {op : Byte} {args : List Byte} {k : Cont}
    (hst : s.st = .idle) (hclosed : s.closed = false) (hport : s.port = some req)
    (hexec : ∀ v : State, v.cfg = s.cfg → exec (decode req) v = .next (begun op args k v))
    (hsched : s.sched = .block false :: .block false :: inbound.map .arrive) :
    runSteps (2 + inbound.length) s = .next (awaiting op args k inbound s) := by
  let accepted := begun op args k { s with port := none, sched := .block false :: inbound.map .arrive }
  have haccept : step s = .next accepted := by
    rw [(stepRunsTheDecodedRequest s req hst hport).2 _ _ hsched]
    exact hexec _ rfl
  have hsend := step_sending (s := accepted) rfl hclosed rfl
  have hsent := (runSteps_succ 1 haccept).trans (runSteps_one hsend)
  refine runSteps_trans hsent ?_
  apply runSteps_arrivals
  exacts [hclosed, rfl]

/-- R85: a command within the limit fits the count field of its request. -/
theorem fitsU8_of_within {cmd : List Byte} (h : cmd.length ≤ s.cfg.maxCmdLen.toNat) : fitsU8 cmd = true := by
  have hmax := s.cfg.maxCmdLen.isLt
  simp only [fitsU8, decide_eq_true_eq]
  omega

end Runs

/-! ## The obligations on exchanges -/

/-- Settles O22: noise and silence are misses alike; 99 of them leave the scan open, and one more ends it. -/
theorem scanBound : Obligations.ScanBound := by
  intro s g rest hst hcnt hclosed hsched hg
  have hcount : s.scanCnt.toNat + 99 = 99 := by rw [hcnt]; rfl
  refine ⟨?sync, ?noise, ?silence⟩
  case sync => exact fun hlen hq => runSteps_scan hst hclosed hsched hcnt hg hlen hq
  case noise =>
    intro hlen hq
    have hmisses := misses_noise hst hclosed hsched rest hg
    rw [hlen] at hmisses
    rw [hmisses.timeout hq hcount, List.drop_of_length_le hlen.le, List.nil_append]
  case silence =>
    intro hq hcounts
    exact (misses_silence hst hclosed hsched 100 hq hcounts).timeout rfl hcount

/-- Settles O24: the bytes are taken into the header, and the attempt after them times out. -/
theorem shortHeaderTimesOut : Obligations.ShortHeaderTimesOut := by
  intro s hst hcnt hclosed hsched hlen
  have hbytes := runSteps_headerBytes hst hclosed hsched (by rw [hcnt]; simpa using hlen) (List.append_nil s.rxq).symm
  exact ⟨_, runSteps_trans hbytes (runSteps_one (step_headerTimeout hst hclosed hsched rfl)), rfl, rfl, rfl, rfl, rfl,
    rfl⟩

/-- Settles O26: the first SYNC_A ends the scan, whatever follows it. -/
theorem falseLockEndsInMismatch : Obligations.FalseLockEndsInMismatch := by
  intro s h rest hst hclosed hsched hq hmask
  refine runSteps_trans (runSteps_lock hst hclosed hsched hq) (runSteps_one ?_)
  apply step_headerMismatch
  exacts [rfl, hsched, hmask]

/-- Settles O27: the request, the scan, the header and its check, one after the other. -/
theorem sendRoundTrip : Obligations.SendRoundTrip := by
  intro s op args g rest hst hclosed hport hwithin hlen hg inbound hsched
  have hexec : ∀ v : State, v.cfg = s.cfg →
      exec (decode (encode (.send (op :: args)))) v = .next (begun op args .none v) := by
    intro v hcfg
    rw [exec_decode_encode (i := .send (op :: args)) (fitsU8_of_within hwithin)]
    exact congrArg _ (beginExchange_accepted .none (hcfg ▸ hwithin))
  have hrequest := runSteps_request hst hclosed hport hexec hsched
  have hreply := runSteps_toValidated (s := awaiting op args .none inbound s)
    (h := ⟨s.cfg.syncB, s.xid + 1, op, s.cfg.syncA, s.cfg.syncB⟩) rfl hclosed rfl rfl hg hlen rfl
  have hheld := runSteps_trans hrequest hreply
  refine runSteps_trans hheld (runSteps_one ?_)
  apply step_headerPasses_done
  exacts [rfl, rfl, rfl, rfl]

end Sys2Proof.Machine
end

section
/-! PROOFS. Fixed reads and acknowledgements, one step at a time (spec/43_stream_reads.md R170 to R173): the accept
steps of READ and ACK, and what the steps of READ_FIXED and READ_ACK do by the outcome of their read attempt. -/

namespace Sys2Proof.Machine

/-- R211, R218: a fault outside an exchange is one result in the current context. -/
theorem raiseFault_eq_delivered_contextResult (status : Status) (sub : BitVec 2) (s : State) :
    raiseFault status sub 0 s.ctxV s = delivered (contextResult status sub .none s) s := rfl

/-! ## A fixed read (R171) -/

theorem readFixedStep_closed {s : State} (e : Bool) (h : s.closed = true) :
    readFixedStep e s = delivered (contextResult .ioError 0 .none s) s := by
  rw [readFixedStep, rxRead_closed h]
  exact raiseFault_eq_delivered_contextResult .ioError 0 s

theorem readFixedStep_timeout {s : State} (h : s.closed = false) (hq : s.rxq = []) :
    readFixedStep true s = delivered (contextResult .timeout 2 .none s) s := by
  rw [readFixedStep, rxRead_empty h hq]
  exact raiseFault_eq_delivered_contextResult .timeout subFixed s

theorem readFixedStep_wait {s : State} (h : s.closed = false) (hq : s.rxq = []) : readFixedStep false s = s := by
  rw [readFixedStep, rxRead_empty h hq]
  rfl

/-- R171: the byte with which `RD_CNT` reaches `RD_N` ends the read with the whole buffer. -/
theorem takeFixedByte_done {s : State} (b : Byte) (h : s.rdCnt + 1 = s.rdN) :
    takeFixedByte b s =
      delivered (contextResult .ok 0 (.bytes (s.rdBuf ++ [b])) s)
        { s with rdBuf := s.rdBuf ++ [b], rdCnt := s.rdN } := by
  rw [takeFixedByte_last b h, h]
  exact finishOk_eq_delivered _ _

/-! ## An acknowledgement read (R173) -/

/-- R78, R173: the check of the four bytes. -/
theorem ackComplete_iff (a : AckBytes) :
    ackComplete a = true ↔ a.b0 = 0xFF ∧ a.b1 = 0xFF ∧ a.b2 = 0xFF ∧ a.b3 = 0xFF := by
  simp only [ackComplete, Config.ackByte, Bool.and_eq_true, beq_iff_eq, and_assoc]

/-- R173: the one register that an acknowledgement byte goes to; an index beyond the four is none of them (log
entry 14). -/
theorem setAckByte_eq (a : AckBytes) (i : BitVec 3) (b : Byte) :
    setAckByte a i b =
      { b0 := if i = 0 then b else a.b0
        b1 := if i = 1 then b else a.b1
        b2 := if i = 2 then b else a.b2
        b3 := if i = 3 then b else a.b3 } := by
  have hcodes : i = 0 ∨ i = 1 ∨ i = 2 ∨ i = 3 ∨ i = 4 ∨ i = 5 ∨ i = 6 ∨ i = 7 := by decide +revert
  rcases hcodes with rfl | rfl | rfl | rfl | rfl | rfl | rfl | rfl <;> rfl

theorem readAckStep_closed {s : State} (e : Bool) (h : s.closed = true) :
    readAckStep e s = delivered (contextResult .ioError 0 .none s) s := by
  rw [readAckStep, rxRead_closed h]
  exact raiseFault_eq_delivered_contextResult .ioError 0 s

theorem readAckStep_wait {s : State} (h : s.closed = false) (hq : s.rxq = []) : readAckStep false s = s := by
  rw [readAckStep, rxRead_empty h hq]
  rfl

/-- R173, R215: the result of an acknowledgement read that came up short, as the configuration reports it. -/
def shortAckResult (s : State) : Result :=
  match s.cfg.shortAckKind with
  | .timeout => contextResult .timeout subAck .none s
  | .ackInvalid => contextResult .ackInvalid 0 .none s

theorem shortAck_eq_delivered (s : State) : shortAck s = delivered (shortAckResult s) s := by
  unfold shortAck shortAckResult
  cases s.cfg.shortAckKind with
  | timeout => exact raiseFault_eq_delivered_contextResult .timeout subAck s
  | ackInvalid => exact raiseFault_eq_delivered_contextResult .ackInvalid 0 s

theorem readAckStep_timeout {s : State} (h : s.closed = false) (hq : s.rxq = []) :
    readAckStep true s = delivered (shortAckResult s) s := by
  rw [readAckStep, rxRead_empty h hq]
  exact shortAck_eq_delivered s

/-- R173: a byte before the fourth is stored and counted, and not checked. -/
theorem takeAckByte_notFourth {s : State} (b : Byte) (h : s.ackCnt ≠ 3) :
    takeAckByte b s =
      { s with
        ackBuf :=
          { b0 := if s.ackCnt = 0 then b else s.ackBuf.b0
            b1 := if s.ackCnt = 1 then b else s.ackBuf.b1
            b2 := if s.ackCnt = 2 then b else s.ackBuf.b2
            b3 := s.ackBuf.b3 }
        ackCnt := s.ackCnt + 1 } := by
  have hnotLast : s.ackCnt + 1 ≠ Config.ackLen := fun heq => h (add_right_cancel (b := 1) heq)
  rw [takeAckByte_below b hnotLast, setAckByte_eq, if_neg h]

/-- R173: the fourth byte is stored like the others, and then all four are checked. -/
theorem takeAckByte_fourth {s : State} (b : Byte) (h : s.ackCnt = 3) :
    takeAckByte b s =
      delivered
        (contextResult
          (if s.ackBuf.b0 = 0xFF ∧ s.ackBuf.b1 = 0xFF ∧ s.ackBuf.b2 = 0xFF ∧ b = 0xFF then .ok else .ackInvalid) 0
          .none s)
        { s with ackBuf := ⟨s.ackBuf.b0, s.ackBuf.b1, s.ackBuf.b2, b⟩, ackCnt := 4 } := by
  have hstored : setAckByte s.ackBuf s.ackCnt b = ⟨s.ackBuf.b0, s.ackBuf.b1, s.ackBuf.b2, b⟩ := by rw [h]; rfl
  have hcounted : s.ackCnt + 1 = 4 := by rw [h]; rfl
  rw [takeAckByte_last b hcounted, hstored, hcounted]
  simp only [ackComplete_iff]
  split
  · exact finishOk_eq_delivered _ _
  · exact raiseFault_eq_delivered_contextResult _ _ _

/-! ## The obligations on single steps -/

/-- Settles O30, by whether there is a byte to read. -/
theorem readCompletes : Obligations.ReadCompletes := by
  intro s
  constructor
  · exact congrArg Host.Outcome.next ((startRead_zero s).trans (finishOk_eq_delivered _ s))
  · exact fun n hn => congrArg _ (startRead_pos s hn)

/-- Settles O33: the accept step looks at no register. -/
theorem ackCompletes : Obligations.AckCompletes := fun _ => rfl

/-- Settles O35, by the parameter. -/
theorem shortAckFaultKind : Obligations.ShortAckFaultKind := by
  intro s hst hc hq
  rw [blockStep_readAck true hst, readAckStep_timeout hc hq]
  rfl

/-- Settles O60, by the outcome of the read attempt of each of the two states. -/
theorem fixedAndAckStepsByOutcome : Obligations.FixedAndAckStepsByOutcome := by
  refine fun e s => ⟨fun hst => ?fixed, fun hst _ => ?ack⟩
  case fixed =>
    rw [blockStep_readFixed e hst]
    refine ⟨?closed, ?timeout, ?wait, ?below, ?last⟩
    case closed =>
      intro hc
      rw [readFixedStep_closed e hc]
    case timeout =>
      rintro hc hq rfl
      rw [readFixedStep_timeout hc hq]
    case wait =>
      rintro hc hq rfl
      rw [readFixedStep_wait hc hq]
    case below =>
      intro b rest hc hq hbelow
      rw [readFixedStep_byte (rxRead_byte hc hq)]
      exact congrArg _ (takeFixedByte_below b hbelow)
    case last =>
      intro b rest hc hq hlast
      rw [readFixedStep_byte (rxRead_byte hc hq)]
      exact congrArg _ (takeFixedByte_done b hlast)
  case ack =>
    rw [blockStep_readAck e hst]
    refine ⟨?closed, ?timeout, ?wait, ?below, ?fourth⟩
    case closed =>
      intro hc
      rw [readAckStep_closed e hc]
    case timeout =>
      rintro hc hq rfl
      rw [readAckStep_timeout hc hq]
      rfl
    case wait =>
      rintro hc hq rfl
      rw [readAckStep_wait hc hq]
    case below =>
      intro b rest hc hq hbelow
      rw [readAckStep_byte (rxRead_byte hc hq)]
      exact congrArg _ (takeAckByte_notFourth b hbelow)
    case fourth =>
      intro b rest hc hq hfourth
      rw [readAckStep_byte (rxRead_byte hc hq)]
      exact congrArg _ (takeAckByte_fourth b hfourth)

end Sys2Proof.Machine
end

section
/-! PROOFS. Fixed reads, acknowledgements and composite exchanges over several steps (spec/43_stream_reads.md R170 to
R175): from the start of a read to its result, and from there the runs of READ and ACK, and of XREAD and XACK behind a
header that passes. -/

namespace Sys2Proof.Machine

section Runs

variable {s : State}

/-! ## The bytes of a fixed read (R171) -/

section Fixed

variable (hst : s.st = .readFixed) (hclosed : s.closed = false) (hsched : s.sched = [])
include hst hclosed hsched

theorem step_fixedByte {b : Byte} {rest : List Byte} (hq : s.rxq = b :: rest) :
    step s = .next (takeFixedByte b { s with rxq := rest }) := by
  rw [step_unscheduled hsched, blockStep_readFixed true hst, readFixedStep_byte (rxRead_byte hclosed hq)]

theorem step_fixedTimeout (hq : s.rxq = []) :
    step s = .next (delivered (contextResult .timeout 2 .none s) s) := by
  rw [step_unscheduled hsched, blockStep_readFixed true hst, readFixedStep_timeout hclosed hq]

/-- R171: bytes that do not bring `RD_CNT` to `RD_N` are buffered in arrival order. -/
theorem runSteps_fixedBytes {bs rest : List Byte} (hcnt : s.rdCnt.toNat + bs.length < s.rdN.toNat)
    (hq : s.rxq = bs ++ rest) :
    runSteps bs.length s =
      .next { s with
        rdBuf := s.rdBuf ++ bs
        rdCnt := s.rdCnt + BitVec.ofNat 16 bs.length
        rxq := rest } := by
  induction bs generalizing s with
  | nil =>
    rw [show s.rdCnt + BitVec.ofNat 16 [].length = s.rdCnt from BitVec.add_zero _, List.append_nil,
      ← show s.rxq = rest from hq]
    rfl
  | cons b bs ih =>
    rw [List.length_cons] at hcnt
    have hcounted : (s.rdCnt + 1).toNat = s.rdCnt.toNat + 1 := toNat_succ_of_below (limit := s.rdN) (by omega)
    have hsucc : (s.rdCnt + 1).toNat + bs.length < s.rdN.toNat := by omega
    have hnotLast : s.rdCnt + 1 ≠ s.rdN := fun heq => by rw [heq] at hsucc; omega
    have hbyte := (step_fixedByte hst hclosed hsched hq).trans (congrArg _ (takeFixedByte_below b hnotLast))
    rw [List.length_cons, runSteps_succ _ hbyte, add_ofNat_succ, add_right_comm,
      List.append_cons s.rdBuf b bs]
    apply ih
    exacts [hst, hclosed, hsched, hsucc, rfl]

/-- R171: the bytes that bring `RD_CNT` to `RD_N` end the read with the whole buffer. -/
theorem runSteps_fixedRead {payload rest : List Byte} (hne : payload ≠ [])
    (hcnt : s.rdCnt.toNat + payload.length = s.rdN.toNat) (hq : s.rxq = payload ++ rest) :
    runSteps payload.length s =
      .next (delivered (contextResult .ok 0 (.bytes (s.rdBuf ++ payload)) s)
        { s with rdBuf := s.rdBuf ++ payload, rdCnt := s.rdN, rxq := rest }) := by
  obtain ⟨front, b, rfl⟩ := (List.eq_nil_or_concat' payload).resolve_left hne
  rw [List.append_assoc] at hq
  rw [List.length_append, List.length_singleton] at hcnt ⊢
  have hfront := runSteps_fixedBytes hst hclosed hsched (bs := front) (by omega) hq
  have hlast : s.rdCnt + BitVec.ofNat 16 front.length + 1 = s.rdN := by
    have hlimit := s.rdN.isLt
    bv_omega
  refine runSteps_trans hfront (runSteps_one ?_)
  rw [step_fixedByte (b := b) (rest := rest), ← List.append_assoc]
  exacts [congrArg _ (takeFixedByte_done b hlast), hst, hclosed, hsched, rfl]

end Fixed

/-- R170, R171: from the start of a read of `n` bytes, 0 among them, to its result. Only a read of some bytes touches
the registers of `READ_FIXED`. -/
theorem runSteps_startRead {n : Word16} {payload rest : List Byte} (hclosed : s.closed = false) (hsched : s.sched = [])
    (hlen : payload.length = n.toNat) (hq : s.rxq = payload ++ rest) :
    runSteps n.toNat (startRead n s) =
      .next (delivered (contextResult .ok 0 (.bytes payload) s)
        { s with
          rdN := if n = 0 then s.rdN else n
          rdCnt := if n = 0 then s.rdCnt else n
          rdBuf := if n = 0 then s.rdBuf else payload
          rxq := rest }) := by
  by_cases hn : n = 0
  · subst hn
    obtain rfl : payload = [] := List.length_eq_zero_iff.mp hlen
    obtain rfl : s.rxq = rest := hq
    rw [startRead_zero, finishOk_eq_delivered]
    rfl
  · have hne : payload ≠ [] := fun hnil => hn (BitVec.eq_of_toNat_eq (hlen ▸ congrArg List.length hnil))
    rw [startRead_pos s hn, ← hlen, if_neg hn, if_neg hn, if_neg hn]
    apply runSteps_fixedRead
    exacts [rfl, hclosed, hsched, hne, (Nat.zero_add _).trans hlen, hq]

/-! ## The bytes of an acknowledgement (R173) -/

/-- `s` in an acknowledgement read, with `i` bytes stored in `buf` and `rest` unread. -/
def ackHeld (i : BitVec 3) (buf : AckBytes) (rest : List Byte) (s : State) : State :=
  { s with st := .readAck, ackBuf := buf, ackCnt := i, rxq := rest }

section Ack

variable {i : BitVec 3} {buf : AckBytes} {b : Byte} {rest : List Byte}

theorem step_ackHeld (hclosed : s.closed = false) (hsched : s.sched = []) :
    step (ackHeld i buf (b :: rest) s) = .next (takeAckByte b (ackHeld i buf rest s)) := by
  rw [step_unscheduled (s := ackHeld i buf (b :: rest) s) hsched, blockStep_readAck true rfl,
    readAckStep_byte (rxRead_byte (s := ackHeld i buf (b :: rest) s) hclosed rfl)]
  rfl

/-- R173: a byte before the fourth. -/
theorem step_ackHeld_below (hclosed : s.closed = false) (hsched : s.sched = []) (hi : i + 1 ≠ Config.ackLen) :
    step (ackHeld i buf (b :: rest) s) = .next (ackHeld (i + 1) (setAckByte buf i b) rest s) :=
  (step_ackHeld hclosed hsched).trans (congrArg _ (takeAckByte_below b hi))

end Ack

/-- R172, R173: from the start of an acknowledgement read to its result. No byte is checked before the fourth. -/
theorem runSteps_startAck {a b c d : Byte} {rest : List Byte} (hclosed : s.closed = false) (hsched : s.sched = [])
    (hq : s.rxq = [a, b, c, d] ++ rest) :
    runSteps 4 (startAck s) =
      .next (delivered
        (contextResult (if a = 0xFF ∧ b = 0xFF ∧ c = 0xFF ∧ d = 0xFF then .ok else .ackInvalid) 0 .none s)
        { s with ackBuf := ⟨a, b, c, d⟩, ackCnt := 4, rxq := rest }) := by
  have hstart : startAck s = ackHeld 0 s.ackBuf (a :: b :: c :: d :: rest) s := by
    rw [show a :: b :: c :: d :: rest = s.rxq from hq.symm]
    rfl
  rw [hstart, runSteps_succ 3 (step_ackHeld_below hclosed hsched (by decide)),
    runSteps_succ 2 (step_ackHeld_below hclosed hsched (by decide)),
    runSteps_succ 1 (step_ackHeld_below hclosed hsched (by decide))]
  exact (runSteps_one (step_ackHeld hclosed hsched)).trans (congrArg _ (takeAckByte_fourth d rfl))

/-! ## The accept steps of READ and ACK (R84, R170, R172) -/

theorem step_read {n : Word16} (hst : s.st = .idle) (hport : s.port = some (encode (.read n))) (hsched : s.sched = []) :
    step s = .next (startRead n { s with port := none }) := by
  rw [(stepRunsTheDecodedRequest s _ hst hport).1 hsched, exec_decode_encode (i := .read n) rfl]
  rfl

theorem step_ack (hst : s.st = .idle) (hport : s.port = some (encode .ack)) (hsched : s.sched = []) :
    step s = .next (startAck { s with port := none }) := by
  rw [(stepRunsTheDecodedRequest s _ hst hport).1 hsched, exec_decode_encode (i := .ack) rfl]
  rfl

/-! ## From the request of an exchange to its scan (R141, R144) -/

/-- R84, R141, R144: an instruction that begins an exchange has, from its request on, its frame sent and what then
arrives in `RXQ`. -/
theorem runSteps_exchange {i : Instr} {op : Byte} {args inbound : List Byte} {k : Cont} (hwf : i.wellFormed = true)
    (hexec : ∀ v, exec i v = .next (beginExchange (op :: args) k v))
    (hwithin : (op :: args).length ≤ s.cfg.maxCmdLen.toNat) (hst : s.st = .idle) (hclosed : s.closed = false)
    (hport : s.port = some (encode i)) (hsched : s.sched = .block false :: .block false :: inbound.map .arrive) :
    runSteps (2 + inbound.length) s = .next (awaiting op args k inbound s) := by
  refine runSteps_request hst hclosed hport (fun v hcfg => ?_) hsched
  rw [exec_decode_encode hwf, hexec]
  exact congrArg _ (beginExchange_accepted k (hcfg ▸ hwithin))

/-! ## Behind a header that passes (R148, R174, R175) -/

/-- R148, R174: the header passes, and a read follows. -/
theorem validatedStep_read {n : Word16} (hmask : hdrMask s.cfg s.xid s.ctxOp s.hdrBuf = 0) (hcont : s.cont = .read n) :
    validatedStep s = startRead n { s with cont := .none } := by
  rw [validatedStep_passed hmask, hcont]

/-- R148, R175: the header passes, and an acknowledgement read follows. -/
theorem validatedStep_ack (hmask : hdrMask s.cfg s.xid s.ctxOp s.hdrBuf = 0) (hcont : s.cont = .ack) :
    validatedStep s = startAck { s with cont := .none } := by
  rw [validatedStep_passed hmask, hcont]

/-- R76: the header that the exchange in progress expects. -/
def expectedHeader (s : State) : HeaderBytes := ⟨s.cfg.syncB, s.xid, s.ctxOp, s.cfg.syncA, s.cfg.syncB⟩

/-- `s` with the expected header checked and its continuation taken, where the scan passed `g` and `rest` is unread. -/
def headerPassed (g rest : List Byte) (s : State) : State :=
  { headerHeld (BitVec.ofNat 7 g.length) (expectedHeader s) rest s with cont := .none }

section Reply

variable {g rest : List Byte} (hst : s.st = .awaitSync) (hclosed : s.closed = false) (hsched : s.sched = [])
  (hcnt : s.scanCnt = 0) (hg : ∀ b ∈ g, b ≠ s.cfg.syncA) (hlen : g.length < 100)
include hst hclosed hsched hcnt hg hlen

/-- R145 to R148: noise, SYNC_A and the expected header bring a fresh scan to the check, which passes. -/
theorem runSteps_headerPasses
    (hq : s.rxq = g ++ [s.cfg.syncA, s.cfg.syncB, s.xid, s.ctxOp, s.cfg.syncA, s.cfg.syncB] ++ rest) :
    runSteps ((g.length + 1) + 5 + 1) s =
      .next (validatedStep (headerHeld (BitVec.ofNat 7 g.length) (expectedHeader s) rest s)) := by
  have hheld := runSteps_toValidated (h := expectedHeader s) hst hclosed hsched hcnt hg hlen hq
  refine runSteps_trans hheld (runSteps_one ?_)
  rw [step_unscheduled, blockStep_validated]
  exacts [rfl, hsched]

/-- R174: behind a header that passes, the next bytes are the value. -/
theorem runSteps_xreadReply {payload : List Byte} {n : Word16} (hcont : s.cont = .read n) (hctx : s.ctxV = true)
    (hpayload : payload.length = n.toNat)
    (hq : s.rxq = g ++ [s.cfg.syncA, s.cfg.syncB, s.xid, s.ctxOp, s.cfg.syncA, s.cfg.syncB] ++ payload ++ rest) :
    runSteps ((g.length + 1) + 5 + 1 + n.toNat) s =
      .next (delivered (operandResult .ok 0 s.xid true s.ctxOp (.bytes payload))
        { s with
          scanCnt := BitVec.ofNat 7 g.length
          hdrBuf := expectedHeader s
          hdrCnt := 5
          rdN := if n = 0 then s.rdN else n
          rdCnt := if n = 0 then s.rdCnt else n
          rdBuf := if n = 0 then s.rdBuf else payload
          rxq := rest }) := by
  rw [List.append_assoc _ payload rest] at hq
  have hpasses := runSteps_headerPasses hst hclosed hsched hcnt hg hlen hq
  have hread : validatedStep (headerHeld (BitVec.ofNat 7 g.length) (expectedHeader s) (payload ++ rest) s) =
      startRead n (headerPassed g (payload ++ rest) s) :=
    validatedStep_read (hdrMask_expected s.cfg s.xid s.ctxOp) hcont
  have hvalue := runSteps_startRead (s := headerPassed g (payload ++ rest) s) hclosed hsched hpayload rfl
  rw [hread] at hpasses
  rw [runSteps_trans hpasses hvalue, ← hctx]
  rfl

/-- R175: behind a header that passes, the next four bytes are the acknowledgement. -/
theorem runSteps_xackReply {a b c d : Byte} (hcont : s.cont = .ack) (hctx : s.ctxV = true)
    (hq : s.rxq = g ++ [s.cfg.syncA, s.cfg.syncB, s.xid, s.ctxOp, s.cfg.syncA, s.cfg.syncB] ++ [a, b, c, d] ++ rest) :
    runSteps ((g.length + 1) + 5 + 1 + 4) s =
      .next (delivered
        (operandResult (if a = 0xFF ∧ b = 0xFF ∧ c = 0xFF ∧ d = 0xFF then .ok else .ackInvalid) 0 s.xid true s.ctxOp
          .none)
        { s with
          scanCnt := BitVec.ofNat 7 g.length
          hdrBuf := expectedHeader s
          hdrCnt := 5
          ackBuf := ⟨a, b, c, d⟩
          ackCnt := 4
          rxq := rest }) := by
  rw [List.append_assoc _ [a, b, c, d] rest] at hq
  have hpasses := runSteps_headerPasses hst hclosed hsched hcnt hg hlen hq
  have hack : validatedStep (headerHeld (BitVec.ofNat 7 g.length) (expectedHeader s) ([a, b, c, d] ++ rest) s) =
      startAck (headerPassed g ([a, b, c, d] ++ rest) s) :=
    validatedStep_ack (hdrMask_expected s.cfg s.xid s.ctxOp) hcont
  have hchecked := runSteps_startAck (s := headerPassed g ([a, b, c, d] ++ rest) s) hclosed hsched rfl
  rw [hack] at hpasses
  rw [runSteps_trans hpasses hchecked, ← hctx]
  rfl

end Reply

end Runs

/-! ## The obligations on reads and composite exchanges -/

/-- Settles O31: the accept step, and then the bytes. -/
theorem readReturnsTheNextBytes : Obligations.ReadReturnsTheNextBytes := by
  intro s n payload rest hst hport hclosed hsched hpos hlen hq
  have hn : n ≠ 0 := by rintro rfl; exact absurd hpos (lt_irrefl 0)
  have hread := runSteps_startRead (s := { s with port := none }) hclosed hsched hlen hq
  rw [if_neg hn, if_neg hn, if_neg hn] at hread
  exact runSteps_trans (runSteps_one (step_read hst hport hsched)) hread

/-- Settles O32: the bytes that are there are buffered, and the attempt after them times out. -/
theorem shortReadTimesOut : Obligations.ShortReadTimesOut := by
  intro s n hst hport hclosed hsched hlen
  have hn : n ≠ 0 := by rintro rfl; exact absurd hlen (Nat.not_lt_zero _)
  have hstart := step_read hst hport hsched
  rw [startRead_pos _ hn] at hstart
  have hbytes := runSteps_fixedBytes
    (s := { s with port := none, rdN := n, rdCnt := 0, rdBuf := [], st := .readFixed }) rfl hclosed hsched
    ((Nat.zero_add _).trans_lt hlen) (List.append_nil s.rxq).symm
  rw [show (0 : Word16) + BitVec.ofNat 16 s.rxq.length = BitVec.ofNat 16 s.rxq.length from BitVec.zero_add _] at hbytes
  refine runSteps_trans (runSteps_trans (runSteps_one hstart) hbytes) (runSteps_one ?_)
  rw [step_fixedTimeout]
  exacts [rfl, rfl, hclosed, hsched, rfl]

/-- Settles O34: the accept step, and then the four bytes. -/
theorem ackChecksFourBytes : Obligations.AckChecksFourBytes := by
  intro s a b c d rest hst hport hclosed hsched hq
  have hack := runSteps_startAck (s := { s with port := none }) hclosed hsched hq
  exact (runSteps_succ 4 (step_ack hst hport hsched)).trans hack

/-- Settles O28: the reply, and before it the request. -/
theorem xreadRoundTrip : Obligations.XreadRoundTrip := by
  constructor
  · intro s g payload rest n hst hcnt hclosed hsched hcont hctx hlen hg hpayload hq
    exact runSteps_xreadReply hst hclosed hsched hcnt hg hlen hcont hctx hpayload hq
  · intro s op args g payload rest n hst hclosed hport hwithin hlen hg hpayload inbound hsched
    have hrequest := runSteps_exchange (i := .xread n (op :: args)) (k := .read n) (fitsU8_of_within hwithin)
      (fun _ => rfl) hwithin hst hclosed hport hsched
    have hreply := runSteps_xreadReply (s := awaiting op args (.read n) inbound s) rfl hclosed rfl rfl hg hlen rfl rfl
      hpayload rfl
    refine (congrArg (runSteps · s) ?_).trans (runSteps_trans hrequest hreply)
    omega

/-- Settles O29: the reply, and before it the request. -/
theorem xackRoundTrip : Obligations.XackRoundTrip := by
  constructor
  · intro s g rest a b c d hst hcnt hclosed hsched hcont hctx hlen hg hq
    exact runSteps_xackReply hst hclosed hsched hcnt hg hlen hcont hctx hq
  · intro s op args g rest a b c d hst hclosed hport hwithin hlen hg inbound hsched
    have hrequest := runSteps_exchange (i := .xack (op :: args)) (k := .ack) (fitsU8_of_within hwithin) (fun _ => rfl)
      hwithin hst hclosed hport hsched
    have hreply := runSteps_xackReply (s := awaiting op args .ack inbound s) rfl hclosed rfl rfl hg hlen rfl rfl rfl
    refine (congrArg (runSteps · s) ?_).trans (runSteps_trans hrequest hreply)
    omega

end Sys2Proof.Machine
end

section
/-! PROOFS. The wire commands (spec/44_wire_commands.md R190 to R196): a command of any shape begins the one exchange
that carries its bytes, with the continuation of its shape, and its bytes read back as it. -/

namespace Sys2Proof

/-- R190 to R194: the opcode picks out one command, and with the shape beside it the bytes lose nothing. -/
theorem decodeCommand_of_command {i : Instr} {shape : Shape} {cmd : List Byte} (h : i.command? = some (shape, cmd)) :
    decodeCommand shape cmd = i := by
  cases i with
  | crc16 | encode | vhdr | send | read | ack | xread | xack | illegal => cases h
  | _ => cases h; rfl

end Sys2Proof

namespace Sys2Proof.Machine

/-! ## The exchange that carries a wire command -/

/-- R195, R196: the shape of a command plays no part in its accept step but for the continuation. -/
theorem serveCommand_eq_beginExchange (shape : Shape) (cmd : List Byte) (s : State) :
    serveCommand shape cmd s = beginExchange cmd (shapeCont shape) s := by
  cases shape with
  | none | acknowledgement | rawBytes n => rfl
  | rawBytesScaled perUnit unitCount =>
    have hbound : perUnit * unitCount ≤ 65535 ↔ perUnit * unitCount < 65536 := Nat.lt_succ_iff.symm
    simp only [serveCommand, shapeCont, hbound]
    split
    · rfl
    · rfl

/-- R190, R195, R141: within `MAX_CMD_LEN`, a wire command begins the exchange that carries its bytes. -/
theorem exec_of_command_within {i : Instr} {shape : Shape} {op : Byte} {args : List Byte} {s : State}
    (hcommand : i.command? = some (shape, op :: args)) (hlen : (op :: args).length ≤ s.cfg.maxCmdLen.toNat) :
    exec i s = .next (begun op args (shapeCont shape) s) := by
  rw [exec_of_command hcommand, serveCommand_eq_beginExchange, beginExchange_accepted _ hlen]
  rfl

/-! ## The obligations on wire commands -/

/-- Settles O36: the three commands have the shape `None`, and four, one and one bytes. -/
theorem setupAndStopCommandsComplete : Obligations.SetupAndStopCommandsComplete := by
  intro sel cols rows s
  refine ⟨fun hlen => ?setup, fun hlen => ⟨?stopStreaming, ?stopComms⟩⟩
  case setup => exact exec_of_command_within (shape := .none) (args := [sel, cols, rows]) rfl hlen
  case stopStreaming => exact exec_of_command_within (shape := .none) (args := []) rfl hlen
  case stopComms => exact exec_of_command_within (shape := .none) (args := []) rfl hlen

/-- Settles O37: row by row, the bytes of the command are the row's opcode and the arguments. -/
theorem deviceOpcodesComplete : Obligations.DeviceOpcodesComplete := by
  intro p hp shape args s hlen
  have hcommand : (p.1 shape args).command? = some (shape, p.2 :: args) :=
    (List.map_inj_left (f := fun p => (p.1 shape args).command?) (g := fun p => some (shape, p.2 :: args))).mp rfl p hp
  exact exec_of_command_within hcommand hlen

/-- Settles O43: reading back undoes writing, for each constructor that has command bytes. -/
theorem commandBytesRoundTrip : Obligations.CommandBytesRoundTrip := fun _ _ _ h => decodeCommand_of_command h

end Sys2Proof.Machine
end

section
/-! PROOFS. Faults of the stream (spec/60_exceptions.md R216, R219, R221): what a closed stream does to each state that
reads or writes. -/

namespace Sys2Proof.Machine

/-- Settles O56, by the state: the closed case of each stream access, with the result in the context of the exchange or
of a lone read. -/
theorem closedStreamEndsInIOError : Obligations.ClosedStreamEndsInIOError := by
  intro e s hclosed
  refine ⟨?sending, ?exchange, ?read⟩
  case sending =>
    intro hst
    obtain ⟨-, hcut⟩ := sendingStepDiscardsThenWrites e s hst
    exact hcut hclosed
  case exchange =>
    rintro (hst | hst)
    · rw [blockStep_awaitSync e hst, awaitSyncStep_closed e hclosed]
    · rw [blockStep_readHdr e hst, readHdrStep_closed e hclosed]
  case read =>
    rintro (hst | hst)
    · rw [blockStep_readFixed e hst, readFixedStep_closed e hclosed]
    · rw [blockStep_readAck e hst, readAckStep_closed e hclosed]

end Sys2Proof.Machine
end

section
/-! PROOFS. The reset line (spec/70_reset_and_hazards.md R240, R241): where a scheduled reset leads, and what of R35
holds there. -/

namespace Sys2Proof.Machine

/-- R240, R241: a scheduled reset is the move of the reset line, whatever `ST` is. -/
theorem step_reset {s : State} {rest : List Event} (h : s.sched = .reset :: rest) :
    step s = .next (resetLine { s with sched := rest }) :=
  step_scheduled h

/-- R27, R35: the result that reset leaves is not a delivered one. -/
theorem resetLine_res_valid (s : State) : (resetLine s).res.valid = false := by
  rw [resetLine_res]; rfl

/-- Settles O58: the registers are those of `resetLine`, and the reset line moves neither streams nor responses. -/
theorem resetLineGivesResetValues : Obligations.ResetLineGivesResetValues := by
  intro s rest hsched
  obtain ⟨hcfg, hclosed, htxlog, hrxq⟩ := sameStreams_resetLine { s with sched := rest }
  exact ⟨_, step_reset hsched, resetLine_xid _, resetLine_st _, resetLine_scanCnt _, resetLine_hdrCnt _,
    resetLine_ctxV _, resetLine_rdCnt _, resetLine_ackCnt _, resetLine_cont _, resetLine_res_valid _,
    hcfg, hrxq, hclosed, htxlog, resetLine_responses _⟩

end Sys2Proof.Machine
end
